-- ==== Sys2Proof/Word.lean ====
section
/-! DEFINITION. The word types of the block (`00_scope.md` rules R11 to R13, R18). -/

namespace Sys2Proof

/-- One byte of a frame, and every 8-bit register (R11, R12). -/
abbrev Byte := BitVec 8

/-- A timestamp: 64-bit unsigned microseconds (R18, R51). -/
abbrev Time := BitVec 64

/-- A 32-bit register or operand; the filter and correction registers read it as two's complement
(R28, R29). -/
abbrev Word32 := BitVec 32

end Sys2Proof
end

