-- ==== Sys2Proof/Config.lean ====
section
/-! DEFINITION. The configuration record: every open parameter of `00_scope.md` rules R8 and R9, with
the constraints of `70_reset_and_hazards.md` rule R267 carried as a proof (`93_implementation_defined.md`
U4: a configuration that breaks one has no behaviour, so it is not a value of this type). -/

namespace Sys2Proof

/-- `mod` of a profile: bandwidth, spread factor and coding rate as one opaque token; no rule reads
inside it (R9). -/
structure Modulation where
  token : Nat
  deriving DecidableEq, Repr

/-- `SYNCWORD`: opaque, passed unchanged to `radio.configure` (R8). -/
structure SyncWord where
  token : Nat
  deriving DecidableEq, Repr

/-- DeviceIdentity, six bytes; `u0` is `UID[0]` (R8, R19). -/
structure Uid where
  u0 : Byte
  u1 : Byte
  u2 : Byte
  u3 : Byte
  u4 : Byte
  u5 : Byte
  deriving DecidableEq, Repr

/-- One AirRateProfile record (R9). -/
structure Profile where
  /-- modulation parameters -/
  mod : Modulation
  /-- nominal TICK period in microseconds, called `T` in the rules -/
  frameIntervalUs : BitVec 32
  /-- frames per hop; 0 means "never hop" -/
  hopInterval : BitVec 8
  /-- frames per telemetry reply; 0 means "never reply" -/
  tlmRatio : BitVec 8
  /-- connection-loss timeout, microseconds -/
  timeoutUs : BitVec 32
  /-- rate-scan dwell time, microseconds -/
  scanDwellUs : BitVec 32
  deriving DecidableEq, Repr

/-- `RC_LAYOUT`: which RC_DATA unpacking is used (R8, R84). -/
inductive RcLayout where
  | L11
  | L10
  deriving DecidableEq, Repr

/-- `HOP_GEN` as plain data (R8, R150): the reference algorithm of R142, or the value that any other
generator has at this device's `UID`. Log entry 5. -/
inductive HopGen where
  | reference
  | table (seq : List Byte)
  deriving DecidableEq, Repr

/-- A list of channel numbers that is a permutation of `0..n-1` (R8, R144 (b)). -/
abbrev IsPermOf (n : Nat) (seq : List Byte) : Prop :=
  seq.length = n ∧ seq.Nodup ∧ ∀ c ∈ seq, c.toNat < n

/-- The constraint on `HOP_GEN`; that the reference algorithm meets it is a property of R142 (R144). -/
def HopGen.Valid (n : Nat) : HopGen → Prop
  | .reference => True
  | .table seq => IsPermOf n seq

/-- The parameters of R8 that have no fixed value. `HOP_N` is the length of `chanTable`, `NPROF` the
length of `profiles`, `DEVICE_ADDR` is computed (R125); `CRC_POLY`, `CRC_INIT` and `LQ_N` are fixed. -/
structure Params where
  uid : Uid
  crcOffset : Byte
  /-- `CHAN_TABLE`, in hertz -/
  chanTable : List (BitVec 32)
  hopGen : HopGen
  /-- `PROFILE` -/
  profiles : List Profile
  bootProfile : Byte
  syncWord : SyncWord
  wPhase : Nat
  wFreq : Nat
  wRssi : Nat
  wSnr : Nat
  phaseDiv : Nat
  /-- `FREQ_Q`, signed -/
  freqQ : BitVec 32
  /-- `FREQ_MIN`, signed -/
  freqMin : BitVec 32
  /-- `FREQ_MAX`, signed -/
  freqMax : BitVec 32
  tentativeGraceUs : BitVec 32
  rcLayout : RcLayout
  deriving DecidableEq, Repr

/-- `HOP_N` (R8). -/
abbrev Params.hopN (p : Params) : Nat := p.chanTable.length

/-- `NPROF` (R8). -/
abbrev Params.nprof (p : Params) : Nat := p.profiles.length

/-- The constraint on one profile (R9). -/
abbrev Profile.Valid (p : Profile) : Prop :=
  1 ≤ p.frameIntervalUs.toNat ∧ p.frameIntervalUs.toNat ≤ 2 ^ 31 - 1

/-- The configuration preconditions, in the order of R267. -/
abbrev Params.Valid (p : Params) : Prop :=
  (1 ≤ p.hopN ∧ p.hopN ≤ 256) ∧ p.chanTable.Nodup ∧ p.hopGen.Valid p.hopN ∧
  (1 ≤ p.nprof ∧ p.nprof ≤ 256) ∧ p.bootProfile.toNat < p.nprof ∧
  (∀ r ∈ p.profiles, r.Valid) ∧
  (1 ≤ p.wPhase ∧ 1 ≤ p.wFreq ∧ 1 ≤ p.wRssi ∧ 1 ≤ p.wSnr) ∧ 1 ≤ p.phaseDiv ∧ 1 ≤ p.freqQ.toInt ∧
  (p.freqMin.toInt ≤ 0 ∧ 0 ≤ p.freqMax.toInt)

/-- A configuration: parameters that meet the preconditions (R8, R267, U4). -/
structure Config extends Params where
  valid : toParams.Valid
  deriving DecidableEq, Repr

end Sys2Proof
end

