-- ==== Sys2Proof/Machine/RefConfig.lean ====
section
/-! DEFINITION. REFCFG, the reference configuration of `00_scope.md` rule R10, and the configurations of
`95_test_vectors.md` that differ from it in one parameter. No rule depends on it. -/

namespace Sys2Proof

/-- The parameter values of REFCFG (R10). -/
def refParams : Params where
  uid := ⟨0x01, 0x02, 0x03, 0x04, 0x05, 0x06⟩
  crcOffset := 0x5A
  chanTable := (List.range 8).map fun i => BitVec.ofNat 32 (915000000 + 500000 * i)
  hopGen := .reference
  profiles :=
    [ ⟨⟨0⟩, 5000, 4, 8, 100000, 1000000⟩,
      ⟨⟨1⟩, 10000, 4, 16, 200000, 1500000⟩,
      ⟨⟨2⟩, 20000, 2, 0, 400000, 2000000⟩ ]
  bootProfile := 0
  syncWord := ⟨0⟩
  wPhase := 4
  wFreq := 4
  wRssi := 4
  wSnr := 4
  phaseDiv := 2
  freqQ := 61
  freqMin := BitVec.ofInt 32 (-100000)
  freqMax := 100000
  tentativeGraceUs := 50000
  rcLayout := .L11

theorem refParams_valid : refParams.Valid :=
  ⟨by decide, by decide, trivial, by decide, by decide, by decide, by decide, by decide, by decide,
    by decide⟩

/-- REFCFG (R10): the configuration of `State.reset`. DESIGN CHOICE, log entry 2. -/
def refcfg : Config := ⟨refParams, refParams_valid⟩

end Sys2Proof
end

