-- ==== Sys2Proof/Syntax.lean ====
section
/-! DEFINITION. Frames, parsed frames, decode errors, the ten instructions of `opcode_table.json` and
the words that stand for them (`30_encoding.md`, `40_frame_codec.md` rule R121, `60_exceptions.md` rule
R236). -/

namespace Sys2Proof

/-- An 8-byte RF frame (R80, R12): `header = b[0]`, `p0..p5 = b[1..6]`, `crc = b[7]`. -/
structure Frame where
  header : Byte
  p0 : Byte
  p1 : Byte
  p2 : Byte
  p3 : Byte
  p4 : Byte
  p5 : Byte
  crc : Byte
  deriving DecidableEq, Repr

/-- ParsedFrame, the tagged union of R121. -/
inductive ParsedFrame where
  | rcData (ch0 ch1 ch2 ch3 : BitVec 11)
  | switchData (sw0 sw1 sw2 sw3 : BitVec 3) (hop nonce : Byte)
  | sync (hop nonce profile : Byte)
  | telemetry (p0 p1 p2 p3 p4 p5 : Byte)
  deriving DecidableEq, Repr

/-- The DecodeError kinds of R236. `unknownFrameType` is listed by the document and never raised
(R241, C5). -/
inductive DecodeError where
  | crcMismatch
  | addressMismatch
  | redundancyMismatch
  | unknownFrameType
  | identityMismatch
  deriving DecidableEq, Repr

/-- The ten instructions (R3, R97), one constructor per row of `opcode_table.json`: the actions that the
four inbound frame types select, the two outbound encoders, the four events. -/
inductive Instr where
  /-- row RC_DATA: four decoded channels (R215) -/
  | rcData (ch0 ch1 ch2 ch3 : BitVec 11)
  /-- row SWITCH_DATA: four decoded switches, carried hop index and nonce (R216) -/
  | switchData (sw0 sw1 sw2 sw3 : BitVec 3) (hop nonce : Byte)
  /-- row SYNC: hop index, nonce, profile id (R217) -/
  | sync (hop nonce profile : Byte)
  /-- row TELEMETRY, inbound: six opaque bytes (R218) -/
  | telemetry (p0 p1 p2 p3 p4 p5 : Byte)
  /-- row ENC_SYNC: build a SYNC frame (R127) -/
  | encSync (hop nonce prof : Byte)
  /-- row ENC_TLM: build the telemetry reply (R126) -/
  | encTlm
  /-- row TICK with its operands (R47, R206) -/
  | tick (now : Time) (freqErr : BitVec 32)
  /-- row FRAME_RX with its operands (R48, R212) -/
  | frameRx (tRx : Time) (b : Frame) (rssi : BitVec 16) (snr : BitVec 8)
  /-- row POLL with its operands (R49, R220) -/
  | poll (now : Time) (scanEnable : Bool)
  /-- row RESET with its operand (R50, R265) -/
  | reset (now : Time)
  deriving DecidableEq, Repr

/-- The action a parsed frame selects (R115, R215 to R218). -/
def ParsedFrame.instr : ParsedFrame → Instr
  | .rcData c0 c1 c2 c3 => .rcData c0 c1 c2 c3
  | .switchData s0 s1 s2 s3 h n => .switchData s0 s1 s2 s3 h n
  | .sync h n p => .sync h n p
  | .telemetry p0 p1 p2 p3 p4 p5 => .telemetry p0 p1 p2 p3 p4 p5

/-- What stands on the event ports at a grant: the one-hot grant vector `{rst, poll, rx, tick}` of R95
and the operand inputs of R47 to R50. -/
structure EventWord where
  grant : BitVec 4
  /-- `now` of TICK, POLL and RESET -/
  now : Time
  freqErr : BitVec 32
  tRx : Time
  b : Frame
  rssi : BitVec 16
  snr : BitVec 8
  scanEnable : Bool
  deriving DecidableEq, Repr

/-- An instruction word, by the three formats of `opcode_table.json` (R97). -/
inductive Code where
  /-- format FRAME_IN: a frame received -/
  | frameIn (b : Frame)
  /-- format FRAME_OUT: a frame an encoder built -/
  | frameOut (b : Frame)
  /-- format EVENT: the ports at a grant -/
  | event (w : EventWord)
  deriving DecidableEq, Repr

/-- Why a grant vector names no event (R95, U6). -/
inductive GrantError where
  /-- `0000`: nothing is granted; the block is idle -/
  | idle
  /-- more than one bit set: no arbiter output -/
  | notOneHot
  deriving DecidableEq, Repr

/-- Why a word is rejected by the decoder, by name. -/
inductive Reject where
  /-- an inbound frame fails a check of R112 -/
  | decodeError (k : DecodeError)
  /-- an outbound frame is none that ENC_SYNC or ENC_TLM builds (R126, R127) -/
  | notOutbound
  /-- an event word with no one-hot grant (R95) -/
  | grant (e : GrantError)
  deriving DecidableEq, Repr

end Sys2Proof
end

