-- ==== Sys2Proof/WellFormed.lean ====
section
/-! DEFINITION. Which instructions the encodings of `30_encoding.md` can carry. -/

namespace Sys2Proof

/-- A channel value that layout L10 can carry: bit 0 is always 0 (R91). -/
def isL10Channel (c : BitVec 11) : Bool := !c.getLsbD 0

/-- An instruction is well formed when its operands fit the encoding that the configuration selects. The
operand types carry every width; the one further check is R91's, for RC_DATA under `RC_LAYOUT = L10`. -/
def WellFormed (cfg : Config) : Instr → Bool
  | .rcData c0 c1 c2 c3 =>
    match cfg.rcLayout with
    | .L11 => true
    | .L10 => isL10Channel c0 && isL10Channel c1 && isL10Channel c2 && isL10Channel c3
  | .switchData _ _ _ _ _ _ => true
  | .sync _ _ _ => true
  | .telemetry _ _ _ _ _ _ => true
  | .encSync _ _ _ => true
  | .encTlm => true
  | .tick _ _ => true
  | .frameRx _ _ _ _ => true
  | .poll _ _ => true
  | .reset _ => true

end Sys2Proof
end

