-- ==== Sys2Proof/Decode.lean ====
section
/-! DEFINITION. The frame decoder, the CRC validator, the event decoder, and after them the encoder
(`40_frame_codec.md`, `30_encoding.md`). -/

namespace Sys2Proof

/-! ## The checksum -/

/-- `CRC_POLY`: x^8 + x^2 + x + 1 (R8, R111). -/
def crcPoly : Byte := 0x07

/-- `CRC_INIT` (R8, R111). -/
def crcInit : Byte := 0x00

/-- One bit step of R111. -/
def crcBit (c : Byte) : Byte := if c.getLsbD 7 then (c <<< 1) ^^^ crcPoly else c <<< 1

/-- One message byte of R111: eight bit steps after the exclusive-or. -/
def crcByte (c m : Byte) : Byte := crcBit^[8] (c ^^^ m)

/-- `CRC8(m)` (R111). -/
def crc8 (m : List Byte) : Byte := m.foldl crcByte crcInit

/-- `b[0..6]`, the bytes the checksum covers (R89, C1). -/
def Frame.body (b : Frame) : List Byte := [b.header, b.p0, b.p1, b.p2, b.p3, b.p4, b.p5]

/-- The CRC byte of a well-formed frame: `(CRC8(b[0..6]) + CRC_OFFSET) mod 256` (R89). -/
def expectedCrc (cfg : Config) (b : Frame) : Byte := crc8 b.body + cfg.crcOffset

/-! ## The header -/

/-- `DEVICE_ADDR = UID[5][5:0]` (R125). -/
def deviceAddr (cfg : Config) : BitVec 6 := cfg.uid.u5.extractLsb' 0 6

/-- `b[0][7:2]` (R81). -/
def Frame.addr (b : Frame) : BitVec 6 := b.header.extractLsb' 2 6

/-- `b[0][1:0]` (R81). -/
def Frame.type (b : Frame) : BitVec 2 := b.header.extractLsb' 0 2

/-- A header byte from an address and a type: `(addr << 2) | type` (R81). -/
def mkHeader (addr : BitVec 6) (type : BitVec 2) : Byte :=
  (addr.setWidth 8 <<< 2) ||| type.setWidth 8

/-! ## Payloads -/

/-- RC_DATA payload, layout L11 (R83, R90, R116). -/
def unpackL11 (b : Frame) : ParsedFrame :=
  .rcData
    ((b.p0.setWidth 11 <<< 3) ||| (b.p4.extractLsb' 5 3).setWidth 11)
    ((b.p1.setWidth 11 <<< 3) ||| (b.p4.extractLsb' 2 3).setWidth 11)
    ((b.p2.setWidth 11 <<< 3) ||| ((b.p4.extractLsb' 0 2).setWidth 11 <<< 1)
      ||| (b.p5.extractLsb' 7 1).setWidth 11)
    ((b.p3.setWidth 11 <<< 3) ||| (b.p5.extractLsb' 4 3).setWidth 11)

/-- One channel of layout L10 from its payload byte and its two low bits: `v = (p << 2) | low`, then
`v << 1` (R91, R117). -/
def l10Channel (p : Byte) (low : BitVec 2) : BitVec 11 :=
  ((p.setWidth 10 <<< 2) ||| low.setWidth 10).setWidth 11 <<< 1

/-- RC_DATA payload, layout L10 (R84, R117). -/
def unpackL10 (b : Frame) : ParsedFrame :=
  .rcData (l10Channel b.p0 (b.p4.extractLsb' 6 2)) (l10Channel b.p1 (b.p4.extractLsb' 4 2))
    (l10Channel b.p2 (b.p4.extractLsb' 2 2)) (l10Channel b.p3 (b.p4.extractLsb' 0 2))

/-- `UnpackRC(p)` for the configured layout (R116, R117). -/
def unpackRC (cfg : Config) (b : Frame) : ParsedFrame :=
  match cfg.rcLayout with
  | .L11 => unpackL11 b
  | .L10 => unpackL10 b

/-- `UnpackSwitch(p)` (R85, R92, R118). -/
def unpackSwitch (b : Frame) : Except DecodeError ParsedFrame :=
  if b.p2 ≠ b.p4 ∨ b.p3 ≠ b.p5 then .error .redundancyMismatch
  else .ok (.switchData (b.p0.extractLsb' 5 3) (b.p0.extractLsb' 2 3)
    (((b.p0.extractLsb' 0 2).setWidth 3 <<< 1) ||| (b.p1.extractLsb' 7 1).setWidth 3)
    (b.p1.extractLsb' 4 3) b.p2 b.p3)

/-- `UnpackSync(p)` (R86, R119). -/
def unpackSync (cfg : Config) (b : Frame) : Except DecodeError ParsedFrame :=
  if b.p3 ≠ cfg.uid.u3 ∨ b.p4 ≠ cfg.uid.u4 ∨ b.p5 ≠ cfg.uid.u5 then .error .identityMismatch
  else .ok (.sync b.p0 b.p1 b.p2)

/-- The unpacking that `b[0][1:0]` selects (R115, R82); all four values are assigned. -/
def unpack (cfg : Config) (b : Frame) : Except DecodeError ParsedFrame :=
  if b.type = 0 then .ok (unpackRC cfg b)
  else if b.type = 1 then unpackSwitch b
  else if b.type = 2 then unpackSync cfg b
  else .ok (.telemetry b.p0 b.p1 b.p2 b.p3 b.p4 b.p5)

/-- `Decode(b)`: CRC, then address, then the type-specific check; the first failure decides (R112,
R243). -/
def decodeFrame (cfg : Config) (b : Frame) : Except DecodeError ParsedFrame :=
  if expectedCrc cfg b ≠ b.crc then .error .crcMismatch
  else if b.addr ≠ deviceAddr cfg then .error .addressMismatch
  else unpack cfg b

/-! ## Words -/

/-- The event that a one-hot grant names, with the operands on its inputs (R95). -/
def decodeEvent (w : EventWord) : Except GrantError Instr :=
  if w.grant = 0b0001 then .ok (.tick w.now w.freqErr)
  else if w.grant = 0b0010 then .ok (.frameRx w.tRx w.b w.rssi w.snr)
  else if w.grant = 0b0100 then .ok (.poll w.now w.scanEnable)
  else if w.grant = 0b1000 then .ok (.reset w.now)
  else if w.grant = 0b0000 then .error .idle
  else .error .notOneHot

/-- Which encoder builds this frame: ENC_SYNC with its three arguments, or ENC_TLM, whose payload is
register contents and carries no argument (R126, R127). -/
def decodeOutbound (cfg : Config) (b : Frame) : Except Reject Instr :=
  if expectedCrc cfg b ≠ b.crc ∨ b.addr ≠ deviceAddr cfg then .error .notOutbound
  else if b.type = 2 ∧ b.p3 = cfg.uid.u3 ∧ b.p4 = cfg.uid.u4 ∧ b.p5 = cfg.uid.u5 then
    .ok (.encSync b.p0 b.p1 b.p2)
  else if b.type = 3 ∧ b.p2.toNat ≤ 100 ∧ b.p3 = 0 ∧ b.p4 = 0 ∧ b.p5 = 0 then .ok .encTlm
  else .error .notOutbound

/-- The instruction a word stands for, by the three formats of R97; total, rejecting by name. -/
def decode (cfg : Config) : Code → Except Reject Instr
  | .frameIn b =>
    match decodeFrame cfg b with
    | .ok f => .ok f.instr
    | .error k => .error (.decodeError k)
  | .frameOut b => decodeOutbound cfg b
  | .event w =>
    match decodeEvent w with
    | .ok i => .ok i
    | .error e => .error (.grant e)

/-! ## The encoder -/

/-- A well-formed frame of this device from a type and a payload: own address, CRC byte appended (R81,
R89, R99). -/
def mkFrame (cfg : Config) (type : BitVec 2) (p0 p1 p2 p3 p4 p5 : Byte) : Frame :=
  let b : Frame := ⟨mkHeader (deviceAddr cfg) type, p0, p1, p2, p3, p4, p5, 0⟩
  { b with crc := expectedCrc cfg b }

/-- The macro `RC11` of R99: layout L11. -/
def encodeL11 (cfg : Config) (c0 c1 c2 c3 : BitVec 11) : Frame :=
  mkFrame cfg 0 (c0.extractLsb' 3 8) (c1.extractLsb' 3 8) (c2.extractLsb' 3 8) (c3.extractLsb' 3 8)
    (((c0.extractLsb' 0 3).setWidth 8 <<< 5) ||| ((c1.extractLsb' 0 3).setWidth 8 <<< 2)
      ||| (c2.extractLsb' 1 2).setWidth 8)
    (((c2.extractLsb' 0 1).setWidth 8 <<< 7) ||| ((c3.extractLsb' 0 3).setWidth 8 <<< 4))

/-- Layout L10, the value `v_i = ch_i >> 1` laid out as R84 says. -/
def encodeL10 (cfg : Config) (c0 c1 c2 c3 : BitVec 11) : Frame :=
  mkFrame cfg 0 (c0.extractLsb' 3 8) (c1.extractLsb' 3 8) (c2.extractLsb' 3 8) (c3.extractLsb' 3 8)
    (((c0.extractLsb' 1 2).setWidth 8 <<< 6) ||| ((c1.extractLsb' 1 2).setWidth 8 <<< 4)
      ||| ((c2.extractLsb' 1 2).setWidth 8 <<< 2) ||| (c3.extractLsb' 1 2).setWidth 8)
    0

/-- The macro `SWF` of R99. -/
def encodeSwitch (cfg : Config) (s0 s1 s2 s3 : BitVec 3) (hop nonce : Byte) : Frame :=
  mkFrame cfg 1
    ((s0.setWidth 8 <<< 5) ||| (s1.setWidth 8 <<< 2) ||| (s2.extractLsb' 1 2).setWidth 8)
    (((s2.extractLsb' 0 1).setWidth 8 <<< 7) ||| (s3.setWidth 8 <<< 4)) hop nonce hop nonce

/-- `ENC_SYNC(hop, nonce, prof)`, the macro `SYNCF` (R127, R99). -/
def encSyncFrame (cfg : Config) (hop nonce prof : Byte) : Frame :=
  mkFrame cfg 2 hop nonce prof cfg.uid.u3 cfg.uid.u4 cfg.uid.u5

/-- The frame that `ENC_TLM()` builds from the three statistics bytes (R88, R126). -/
def encTlmFrame (cfg : Config) (rssi snr lq : Byte) : Frame := mkFrame cfg 3 rssi snr lq 0 0 0

/-- A port word with every operand input 0. -/
def quietPorts (grant : BitVec 4) : EventWord :=
  ⟨grant, 0, 0, 0, ⟨0, 0, 0, 0, 0, 0, 0, 0⟩, 0, 0, false⟩

/-- The word of an instruction, by its row's format (R97, R95). ENC_TLM takes no argument: its word is the
one whose register-valued bytes are 0 (log entry 7). -/
def encode (cfg : Config) : Instr → Code
  | .rcData c0 c1 c2 c3 =>
    .frameIn (match cfg.rcLayout with
      | .L11 => encodeL11 cfg c0 c1 c2 c3
      | .L10 => encodeL10 cfg c0 c1 c2 c3)
  | .switchData s0 s1 s2 s3 h n => .frameIn (encodeSwitch cfg s0 s1 s2 s3 h n)
  | .sync h n p => .frameIn (encSyncFrame cfg h n p)
  | .telemetry p0 p1 p2 p3 p4 p5 => .frameIn (mkFrame cfg 3 p0 p1 p2 p3 p4 p5)
  | .encSync h n p => .frameOut (encSyncFrame cfg h n p)
  | .encTlm => .frameOut (encTlmFrame cfg 0 0 0)
  | .tick now fe => .event { quietPorts 0b0001 with now := now, freqErr := fe }
  | .frameRx t b rssi snr =>
    .event { quietPorts 0b0010 with tRx := t, b := b, rssi := rssi, snr := snr }
  | .poll now scan => .event { quietPorts 0b0100 with now := now, scanEnable := scan }
  | .reset now => .event { quietPorts 0b1000 with now := now }

/-! ## Frame macros for stimulus (R99) -/

/-- `WRONGADDR(f)`: the next address, CRC byte recomputed. -/
def wrongAddr (cfg : Config) (b : Frame) : Frame :=
  let b' : Frame := { b with header := mkHeader (deviceAddr cfg + 1) b.type }
  { b' with crc := expectedCrc cfg b' }

/-- `BADCRC(f, m)`: the CRC byte disturbed by `m`. -/
def badCrc (b : Frame) (m : Byte) : Frame := { b with crc := b.crc ^^^ m }

/-! ## The host's word -/

/-- The frame whose 64 bits are `w`, `b[0]` the most significant byte, as the notes of
`opcode_table.json` number them (log entry 8). -/
def frameOfWord (w : Nat) : Frame :=
  ⟨BitVec.ofNat 8 (w / 2 ^ 56), BitVec.ofNat 8 (w / 2 ^ 48), BitVec.ofNat 8 (w / 2 ^ 40),
    BitVec.ofNat 8 (w / 2 ^ 32), BitVec.ofNat 8 (w / 2 ^ 24), BitVec.ofNat 8 (w / 2 ^ 16),
    BitVec.ofNat 8 (w / 2 ^ 8), BitVec.ofNat 8 w⟩

/-- The 64-bit number of a frame, inverse to `frameOfWord`. -/
def Frame.toWord (b : Frame) : Nat :=
  b.header.toNat * 2 ^ 56 + b.p0.toNat * 2 ^ 48 + b.p1.toNat * 2 ^ 40 + b.p2.toNat * 2 ^ 32 +
    b.p3.toNat * 2 ^ 24 + b.p4.toNat * 2 ^ 16 + b.p5.toNat * 2 ^ 8 + b.crc.toNat

/-- A row's bare pattern has no bits for the fields that the configuration determines. Where the address and
the CRC byte are all zero bits they are filled in (R81, R89), and so is an all-zero identity suffix of a SYNC
frame (R86); any other frame is taken as it stands. Log entry 8. -/
def completeFrame (cfg : Config) (b : Frame) : Frame :=
  if b.addr = 0 ∧ b.crc = 0 then
    if b.type = 2 ∧ b.p3 = 0 ∧ b.p4 = 0 ∧ b.p5 = 0 then
      mkFrame cfg b.type b.p0 b.p1 b.p2 cfg.uid.u3 cfg.uid.u4 cfg.uid.u5
    else mkFrame cfg b.type b.p0 b.p1 b.p2 b.p3 b.p4 b.p5
  else b

/-- The word of `opcode_table.json` as a `Code`: 64 bits are an inbound frame (the direction is not a bit,
so an outbound row's word reads as the inbound frame it is, R128), one byte is a grant vector with every
operand input 0. -/
def codeOfTableWord (cfg : Config) (nbits w : Nat) : Option Code :=
  if nbits = 64 then some (.frameIn (completeFrame cfg (frameOfWord w)))
  else if nbits ≤ 8 ∧ w < 16 then some (.event (quietPorts (BitVec.ofNat 4 w)))
  else none

/-- The instruction the decoder reads from a table word, under REFCFG. -/
def decodeTableWord (nbits w : Nat) : Option Instr :=
  match codeOfTableWord refcfg nbits w with
  | none => none
  | some c =>
    match decode refcfg c with
    | .ok i => some i
    | .error _ => none

end Sys2Proof
end

