-- ==== Sys2Proof/Machine/HopGenerate.lean ====
section
/-! DEFINITION. Generation of the hop sequence (`41_hop_sequence.md` rules R141 to R143, R149). -/

namespace Sys2Proof

/-- `seed = {UID[2], UID[3], UID[4], UID[5]}`, 32 bits (R141, R61). -/
def hopSeed (u : Uid) : Nat :=
  u.u2.toNat * 2 ^ 24 + u.u3.toNat * 2 ^ 16 + u.u4.toNat * 2 ^ 8 + u.u5.toNat

/-- The linear congruential step (R143). -/
def lcgStep (s : Nat) : Nat := (214013 * s + 2531011) % 2 ^ 31

/-- The draw taken from a generator state: the bits above bit 15 (R143). -/
def lcgDraw (s : Nat) : Nat := s / 2 ^ 16

/-- Exchange two entries of a sequence; `i = j` changes nothing (R142). -/
def swapEntries (l : List Byte) (i j : Nat) : List Byte :=
  (l.set i (l.getD j 0)).set j (l.getD i 0)

/-- The loop of R142, `i` counting down to 1 from generator state `s`. -/
def shuffleFrom : Nat → Nat → List Byte → List Byte
  | 0, _, l => l
  | i + 1, s, l => shuffleFrom i (lcgStep s) (swapEntries l (i + 1) (lcgDraw (lcgStep s) % (i + 2)))

/-- `SEQ[i] <- i` for all i (R142). -/
def identitySeq (n : Nat) : List Byte := (List.range n).map (BitVec.ofNat 8)

/-- `HopGenerate()` for an identity and a channel count (R142). -/
def hopGenerate (u : Uid) (n : Nat) : List Byte := shuffleFrom (n - 1) (hopSeed u) (identitySeq n)

/-- `HOP_GEN(UID)` of a configuration (R8, R149, R150). -/
def Config.sequence (cfg : Config) : List Byte :=
  match cfg.hopGen with
  | .reference => hopGenerate cfg.uid cfg.hopN
  | .table seq => seq

end Sys2Proof
end

