-- ==== Sys2Proof/Machine/State.lean ====
section
/-! DEFINITION. The state of the block (`10_state.md`), its request lines and output ports as plain data,
the reasons a step can stop, and the state right after reset. -/

namespace Sys2Proof.Machine

/-- `LINK_STATE`, a 2-bit register whose value 3 never occurs (R26, U6). -/
inductive LinkState where
  | disconnected
  | tentative
  | connected
  deriving DecidableEq, Repr

/-- The four events (R46, R95). -/
inductive EventKind where
  | rst
  | tick
  | rx
  | poll
  deriving DecidableEq, Repr

/-- The command set of the output port, codes 0 to 11 in this order (R52, R100). -/
inductive Cmd where
  | radioConfigure (mod : Modulation) (frequency : BitVec 32) (syncWord : SyncWord)
  | radioSetFrequency (f : BitVec 32)
  | radioBeginReceive
  /-- exists in the document's contract; no rule emits it (R52, R226) -/
  | radioStopReceive
  | radioTransmit (bytes : Frame)
  /-- signed 32-bit argument -/
  | radioSetFrequencyCorrection (value : BitVec 32)
  | timerSetInterval (us : BitVec 32)
  /-- signed 32-bit argument, microseconds -/
  | timerPhaseShift (delta : BitVec 32)
  | signalLinkUp
  | signalLinkDown
  | serialRcValid
  | serialSwValid
  deriving DecidableEq, Repr

/-- `CH[0..3]`, four 11-bit registers (R21). -/
structure Channels where
  ch0 : BitVec 11
  ch1 : BitVec 11
  ch2 : BitVec 11
  ch3 : BitVec 11
  deriving DecidableEq, Repr

/-- `SW[0..3]`, four 3-bit registers (R21). -/
structure Switches where
  sw0 : BitVec 3
  sw1 : BitVec 3
  sw2 : BitVec 3
  sw3 : BitVec 3
  deriving DecidableEq, Repr

/-- Operand inputs of `tick_req` (R47). -/
structure TickOps where
  now : Time
  freqErr : BitVec 32
  deriving DecidableEq, Repr

/-- Operand inputs of `rx_req` (R48). -/
structure RxOps where
  tRx : Time
  b : Frame
  rssi : BitVec 16
  snr : BitVec 8
  deriving DecidableEq, Repr

/-- Operand inputs of `poll_req` (R49). -/
structure PollOps where
  now : Time
  scanEnable : Bool
  deriving DecidableEq, Repr

/-- One trigger from the environment (R246). -/
inductive Request where
  | rst (now : Time)
  | tick (o : TickOps)
  | rx (o : RxOps)
  | poll (o : PollOps)
  deriving DecidableEq, Repr

/-- The four request lines, each holding at most one pending request with its operands (R46, R246,
R275). -/
structure Requests where
  rst : Option Time
  tick : Option TickOps
  rx : Option RxOps
  poll : Option PollOps
  deriving DecidableEq, Repr

/-- No line asserted. -/
abbrev Requests.quiet : Requests := ⟨none, none, none, none⟩

/-- The output ports as the last grant left them: the acknowledged line (R46), the ordered command list
(R16, R52), the decode result of FRAME_RX (R121, R212), the bytes an encoder call returned (R126, R127).
The model's own field: the spec calls these outputs, not state (R41). Log entry 3. -/
structure Outputs where
  ack : Option EventKind
  cmds : List Cmd
  rx : Option (Except DecodeError ParsedFrame)
  enc : Option Frame
  deriving DecidableEq, Repr

/-- Nothing acknowledged, nothing emitted. -/
abbrev Outputs.quiet : Outputs := ⟨none, [], none, none⟩

/-- The machine. Registers and tables as `10_state.md` names them; after them the model's own fields:
`cfg` (log entry 1), `req`, `env` (log entry 4) and `out` (log entry 3). -/
@[ext]
structure State where
  /-- the configuration (R8): never written by any event -/
  cfg : Config
  /-- `CH[0..3]` (R21) -/
  ch : Channels
  /-- `SW[0..3]` (R21) -/
  sw : Switches
  /-- `SYNC_PROFILE` (R23) -/
  syncProfile : BitVec 8
  /-- `NONCE` (R24) -/
  nonce : BitVec 8
  /-- `HOP_IDX` (R25) -/
  hopIdx : BitVec 8
  /-- `LINK_STATE` (R26) -/
  linkState : LinkState
  /-- `PROFILE_IDX` (R27) -/
  profileIdx : BitVec 8
  /-- `FREQ_CORR`, two's complement (R28) -/
  freqCorr : BitVec 32
  /-- `PHASE_F`, two's complement (R29) -/
  phaseF : BitVec 32
  /-- `FREQ_F`, two's complement (R29) -/
  freqF : BitVec 32
  /-- `RSSI_F`, two's complement (R29) -/
  rssiF : BitVec 32
  /-- `SNR_F`, two's complement (R29) -/
  snrF : BitVec 32
  /-- `LQ_CURSOR`, 7 bits, below 100 by type (R30) -/
  lqCursor : Fin 100
  /-- `FRAME_SEEN` (R31) -/
  frameSeen : Bool
  /-- `ERR_COUNT` (R32) -/
  errCount : BitVec 32
  /-- `LAST_TICK_TS` (R33) -/
  lastTickTs : BitVec 64
  /-- `LAST_VALID_TS` (R34) -/
  lastValidTs : BitVec 64
  /-- `SCAN_ANCHOR_TS` (R35) -/
  scanAnchorTs : BitVec 64
  /-- `SEQ[0..HOP_N-1]` (R36) -/
  seq : List (BitVec 8)
  /-- `LQW[0..99]`; `true` is a hit (R37) -/
  lqw : Vector Bool 100
  /-- the request lines (R46) -/
  req : Requests
  /-- triggers still to come from the environment: one list for each grant point ahead -/
  env : List (List Request)
  /-- the output ports -/
  out : Outputs
  deriving DecidableEq, Repr

/-- Reasons to stop with a fault: none. No rule of the spec halts or locks up the block (R244, and the
last line of part 1 of `93_implementation_defined.md`), so the type is empty; that is safe. -/
inductive Fault where
  deriving DecidableEq, Repr

/-- Reasons to refuse. -/
inductive Refusal where
  /-- raised by an arm of `exec` for an instruction that has no meaning yet; safe -/
  | notModelled (mnemonic : String)
  /-- raised by `step` on a grant vector with more than one bit set, which the arbiter never produces
  (R95, U6); safe -/
  | grantNotOneHot
  deriving DecidableEq, Repr

/-- The machine right after `RESET(0)` under REFCFG: the values of R44 and the four commands of R265. The
configuration and the timestamp 0 are DESIGN CHOICE, log entry 2. -/
def State.reset : State where
  cfg := refcfg
  ch := ⟨0, 0, 0, 0⟩
  sw := ⟨0, 0, 0, 0⟩
  syncProfile := 0
  nonce := 0
  hopIdx := 0
  linkState := .disconnected
  profileIdx := refcfg.bootProfile
  freqCorr := 0
  phaseF := 0
  freqF := 0
  rssiF := 0
  snrF := 0
  lqCursor := 0
  frameSeen := false
  errCount := 0
  lastTickTs := 0
  lastValidTs := 0
  scanAnchorTs := 0
  seq := refcfg.sequence
  lqw := Vector.replicate 100 false
  req := .quiet
  env := []
  out :=
    { ack := some .rst
      cmds :=
        [.radioConfigure ⟨0⟩ 915000000 ⟨0⟩, .radioSetFrequencyCorrection 0, .timerSetInterval 5000,
          .radioBeginReceive]
      rx := none
      enc := none }

end Sys2Proof.Machine
end

