-- ==== Sys2Proof/Machine/Operands.lean ====
section
/-! DEFINITION. Operand reads: table elements, elapsed time, signed arithmetic, the current profile
(`00_scope.md` rules R13, R14, R18; `20_memory.md` rules R63, R67). -/

namespace Sys2Proof.Machine

/-- `dt(a, b) = (a - b) mod 2^64` (R18). -/
def dt (a b : Time) : Nat := (a - b).toNat

/-- `tdiv(a, n)`: division truncated toward zero (R13). -/
def tdiv (a : Int) (n : Nat) : Int := a.tdiv n

/-- What `PROFILE[i]` reads as outside `0..NPROF-1`: no rule forms such an index (R67). -/
def absentProfile : Profile := ⟨⟨0⟩, 0, 0, 0, 0, 0⟩

/-- `PROFILE[i]` (R14, R63). -/
def profileAt (cfg : Config) (i : Nat) : Profile := cfg.profiles.getD i absentProfile

/-- `CHAN_TABLE[c]` (R14, R63); total, since no rule forms an index outside the table (R67). -/
def chanAt (cfg : Config) (c : Byte) : BitVec 32 := cfg.chanTable.getD c.toNat 0

/-- `SEQ[i]` (R14, R63); total, as `chanAt`. -/
def State.seqAt (s : State) (i : Nat) : Byte := s.seq.getD i 0

/-- `CHAN_TABLE[SEQ[i]]` (R145, R148). -/
def State.hopFrequency (s : State) (i : Nat) : BitVec 32 := chanAt s.cfg (s.seqAt i)

/-- `P`, the current profile (R27). -/
def State.profile (s : State) : Profile := profileAt s.cfg s.profileIdx.toNat

/-- `n1 = zext(NONCE) + 1`, in 1..256, no wrap (R206, R209). -/
def State.n1 (s : State) : Nat := s.nonce.toNat + 1

/-- `HopCurrentFrequency()` (R145). -/
def State.currentFrequency (s : State) : BitVec 32 := s.hopFrequency s.hopIdx.toNat

/-- The popcount of the window (R13, R177). -/
def State.hits (s : State) : Nat := s.lqw.toList.count true

/-- `LQ()`, the quality percentage: `(100 * popcount(LQW)) div 100` (R177). -/
def State.lq (s : State) : Nat := 100 * s.hits / 100

end Sys2Proof.Machine
end

