-- ==== Sys2Proof/Machine/Flags.lean ====
section
/-! DEFINITION. The conditions the events test. The block has no condition-code register (R39); its one
flag is the register `FRAME_SEEN` (R31). -/

namespace Sys2Proof.Machine

/-- The test `n != 0 and n1 mod n = 0` of the schedule, for a hop interval or a telemetry ratio; 0 means
"never" (R9, R209, R210). -/
def State.scheduled (s : State) (interval : BitVec 8) : Bool :=
  interval != 0 && s.n1 % interval.toNat == 0

/-- A hop boundary: the condition of R209, on the nonce after R208. -/
def State.hopDue (s : State) : Bool :=
  s.scheduled s.profile.hopInterval && s.linkState != .disconnected

/-- The condition of the telemetry action, R210. -/
def State.tlmDue (s : State) : Bool :=
  s.scheduled s.profile.tlmRatio && s.linkState == .connected

/-- The connection-loss limit in microseconds, up to 33 bits: the profile's timeout, in Tentative extended
by the grace (R192). -/
def State.timeoutLimit (s : State) : Nat :=
  s.profile.timeoutUs.toNat +
    (if s.linkState = .tentative then s.cfg.tentativeGraceUs.toNat else 0)

/-- The timeout test of R192: strictly more than the limit, and not Disconnected. -/
def State.timedOut (s : State) (now : Time) : Bool :=
  s.linkState != .disconnected && decide (dt now s.lastValidTs > s.timeoutLimit)

/-- The rate-scan test of R221. -/
def State.scanDue (s : State) (now : Time) (scanEnable : Bool) : Bool :=
  s.linkState == .disconnected && scanEnable &&
    decide (dt now s.scanAnchorTs > s.profile.scanDwellUs.toNat)

/-- The Tentative-to-Connected comparison: nonce and raw carried hop byte equal the local registers
(R189). -/
def State.predicts (s : State) (hop nonce : Byte) : Bool := nonce == s.nonce && hop == s.hopIdx

end Sys2Proof.Machine
end

