-- ==== Sys2Proof/Machine/Ops.lean ====
section
/-! DEFINITION. The operations every event shares: emitting a command, beginning an event, reporting a
frame's result, the one effect of a decode error (the block's only exception, `60_exceptions.md` rule
R240; there is no return from it), and the hop-index writes of `41_hop_sequence.md`. -/

namespace Sys2Proof.Machine

/-- `emit c(args)`: append to the ordered output list of the event (R16). -/
def State.emit (s : State) (c : Cmd) : State :=
  { s with out := { s.out with cmds := s.out.cmds ++ [c] } }

/-- An event starts: its output list is empty (R16); its line is acknowledged when the handler has
completed (R46), which is the state the event leaves. -/
def State.beginEvent (s : State) (k : EventKind) : State :=
  { s with out := { ack := some k, cmds := [], rx := none, enc := none } }

/-- The decode result on the FRAME_RX result output (R121, R212). -/
def State.present (s : State) (r : Except DecodeError ParsedFrame) : State :=
  { s with out := { s.out with rx := some r } }

/-- The one effect of every decode error: the frame is dropped and counted, modulo 2^32, and the kind is
reported; nothing is saved, nothing resumes, nothing is emitted (R240, R213). -/
def State.raiseDecodeError (s : State) (k : DecodeError) : State :=
  { s with errCount := s.errCount + 1 }.present (.error k)

/-- The numeric code of a decode error (R236). -/
def errorCode : DecodeError → BitVec 3
  | .crcMismatch => 1
  | .addressMismatch => 2
  | .redundancyMismatch => 3
  | .unknownFrameType => 4
  | .identityMismatch => 5

/-- The 3-bit `result` of FRAME_RX: 0 for an accepted frame, else the code of the error (R212, R236). -/
def resultCode : Except DecodeError ParsedFrame → BitVec 3
  | .ok _ => 0
  | .error k => errorCode k

/-- The code of a command (R52, R100). -/
def Cmd.code : Cmd → BitVec 4
  | .radioConfigure _ _ _ => 0
  | .radioSetFrequency _ => 1
  | .radioBeginReceive => 2
  | .radioStopReceive => 3
  | .radioTransmit _ => 4
  | .radioSetFrequencyCorrection _ => 5
  | .timerSetInterval _ => 6
  | .timerPhaseShift _ => 7
  | .signalLinkUp => 8
  | .signalLinkDown => 9
  | .serialRcValid => 10
  | .serialSwValid => 11

/-- The numeric encoding of `LINK_STATE` (R26). -/
def LinkState.code : LinkState → BitVec 2
  | .disconnected => 0
  | .tentative => 1
  | .connected => 2

/-- `HopAdvance()` (R146). -/
def State.hopAdvance (s : State) : State :=
  { s with hopIdx := BitVec.ofNat 8 ((s.hopIdx.toNat + 1) % s.cfg.hopN) }

/-- `HopSetIndex(i)`: the carried byte reduced modulo `HOP_N`; the radio is not retuned (R147). -/
def State.hopSetIndex (s : State) (i : Byte) : State :=
  { s with hopIdx := BitVec.ofNat 8 (i.toNat % s.cfg.hopN) }

/-- `HopReturnToInitial()` (R148). -/
def State.hopReturnToInitial (s : State) : State :=
  { s with hopIdx := 0 }.emit (.radioSetFrequency (s.hopFrequency 0))

end Sys2Proof.Machine
end

