-- ==== Sys2Proof/Machine/Arbiter.lean ====
section
/-! DEFINITION. Request lines, their arrival from the environment, and the arbiter (`10_state.md` rules
R46 to R50, `60_exceptions.md` rules R245, R246). -/

namespace Sys2Proof.Machine

/-- A trigger asserts its line with its operands. A second trigger of a kind that is still pending is lost
(R246, R275). -/
def Requests.trigger (r : Requests) : Request → Requests
  | .rst now => if r.rst.isSome then r else { r with rst := some now }
  | .tick o => if r.tick.isSome then r else { r with tick := some o }
  | .rx o => if r.rx.isSome then r else { r with rx := some o }
  | .poll o => if r.poll.isSome then r else { r with poll := some o }

/-- Triggers that arrive one after another. -/
def Requests.triggerAll (r : Requests) (l : List Request) : Requests := l.foldl Requests.trigger r

/-- The line granted: RESET, then TICK, then FRAME_RX, then POLL (R245). -/
def Requests.grant (r : Requests) : Option EventKind :=
  if r.rst.isSome then some .rst
  else if r.tick.isSome then some .tick
  else if r.rx.isSome then some .rx
  else if r.poll.isSome then some .poll
  else none

/-- The one-hot grant vector `{rst, poll, rx, tick}`; `0000` when idle (R95). -/
def grantVector : Option EventKind → BitVec 4
  | none => 0b0000
  | some .tick => 0b0001
  | some .rx => 0b0010
  | some .poll => 0b0100
  | some .rst => 0b1000

/-- The event ports at a grant: the grant vector and the granted line's operands (R46 to R50). -/
def Requests.ports (r : Requests) : EventWord :=
  let q := quietPorts (grantVector r.grant)
  match r.grant with
  | none => q
  | some .rst => { q with now := r.rst.getD 0 }
  | some .tick =>
    match r.tick with
    | some o => { q with now := o.now, freqErr := o.freqErr }
    | none => q
  | some .rx =>
    match r.rx with
    | some o => { q with tRx := o.tRx, b := o.b, rssi := o.rssi, snr := o.snr }
    | none => q
  | some .poll =>
    match r.poll with
    | some o => { q with now := o.now, scanEnable := o.scanEnable }
    | none => q

/-- The granted request is served: its line is free again (R46). -/
def Requests.serve (r : Requests) : Requests :=
  match r.grant with
  | none => r
  | some .rst => { r with rst := none }
  | some .tick => { r with tick := none }
  | some .rx => { r with rx := none }
  | some .poll => { r with poll := none }

/-- A grant point: the environment's next triggers are on the lines. Log entry 4. -/
def State.arrive (s : State) : State :=
  match s.env with
  | [] => s
  | l :: rest => { s with req := s.req.triggerAll l, env := rest }

/-- The granted line is taken. -/
def State.serve (s : State) : State := { s with req := s.req.serve }

/-- Nothing pending: the block holds its state (R256); nothing is acknowledged or emitted. -/
def State.idle (s : State) : State := { s with out := .quiet }

/-- The request lines that carry a table word, and nothing else: a frame stands on `rx_req`, a grant
vector asserts the lines of its bits; operands the word does not carry are 0. Log entry 8. -/
def requestsOfTableWord (cfg : Config) (nbits w : Nat) : Requests :=
  if nbits = 64 then { Requests.quiet with rx := some ⟨0, completeFrame cfg (frameOfWord w), 0, 0⟩ }
  else
    let q := quietPorts 0
    { rst := if w.testBit 3 then some q.now else none
      tick := if w.testBit 0 then some ⟨q.now, q.freqErr⟩ else none
      rx := if w.testBit 1 then some ⟨q.tRx, q.b, q.rssi, q.snr⟩ else none
      poll := if w.testBit 2 then some ⟨q.now, q.scanEnable⟩ else none }

end Sys2Proof.Machine
end

