-- ==== Sys2Proof/Machine/Codec.lean ====
section
/-! DEFINITION. The outbound encoders as instructions (`40_frame_codec.md` rules R126, R127). Each is a
pure function; its bytes appear on the encoder output. Log entry 6. -/

namespace Sys2Proof.Machine

/-- The bytes that `ENC_TLM()` builds in state `s` (R126). -/
def State.tlmFrame (s : State) : Frame :=
  encTlmFrame s.cfg (s.rssiF.setWidth 8) (s.snrF.setWidth 8) (BitVec.ofNat 8 s.lq)

/-- An encoder call returns its bytes. -/
def State.returnFrame (s : State) (b : Frame) : State := { s with out := { s.out with enc := some b } }

/-- Row ENC_SYNC (R127). -/
def execEncSync (hop nonce prof : Byte) (s : State) : Host.Outcome State Fault Refusal :=
  .next (s.returnFrame (encSyncFrame s.cfg hop nonce prof))

/-- Row ENC_TLM (R126). -/
def execEncTlm (s : State) : Host.Outcome State Fault Refusal := .next (s.returnFrame s.tlmFrame)

end Sys2Proof.Machine
end

