-- ==== Sys2Proof/Machine/LockLoop.lean ====
section
/-! DEFINITION. Filters and the phase/frequency lock loop (`42_lock_loop.md`). -/

namespace Sys2Proof.Machine

/-- `Filter(v, x, W) = v + tdiv(x - v, W)` over the integers, stored in 32 bits, which it fits (R156). -/
def filter (v : BitVec 32) (x : Int) (w : Nat) : BitVec 32 :=
  BitVec.ofInt 32 (v.toInt + tdiv (x - v.toInt) w)

/-- `FilterResetAll()` (R158). -/
def State.filterResetAll (s : State) : State :=
  { s with phaseF := 0, freqF := 0, rssiF := 0, snrF := 0 }

/-- `raw` of R159: the arrival offset folded into one frame interval, less half an interval. -/
def State.phaseError (s : State) (tRx : Time) : Int :=
  let t := s.profile.frameIntervalUs.toNat
  (dt tRx s.lastTickTs % t : Nat) - (t / 2 : Nat)

/-- `PhaseCorrect(t_rx)` (R159, R219). -/
def State.phaseCorrect (s : State) (tRx : Time) : State :=
  let f := filter s.phaseF (s.phaseError tRx) s.cfg.wPhase
  { s with phaseF := f }.emit (.timerPhaseShift (BitVec.ofInt 32 (tdiv f.toInt s.cfg.phaseDiv)))

/-- The correction register after one step from `c`, by the sign of the filtered error `f`: one quantum,
clamped (R162). -/
def stepCorrection (cfg : Config) (c f : BitVec 32) : BitVec 32 :=
  if 0 < f.toInt then BitVec.ofInt 32 (min (c.toInt + cfg.freqQ.toInt) cfg.freqMax.toInt)
  else if f.toInt < 0 then BitVec.ofInt 32 (max (c.toInt - cfg.freqQ.toInt) cfg.freqMin.toInt)
  else c

/-- `FreqCorrectStep(freq_err)` (R162). -/
def State.freqCorrectStep (s : State) (freqErr : BitVec 32) : State :=
  let f := filter s.freqF freqErr.toInt s.cfg.wFreq
  let c := stepCorrection s.cfg s.freqCorr f
  { s with freqF := f, freqCorr := c }.emit (.radioSetFrequencyCorrection c)

/-- `StatsUpdate(rssi, snr)` (R166). -/
def State.statsUpdate (s : State) (rssi : BitVec 16) (snr : BitVec 8) : State :=
  { s with
    rssiF := filter s.rssiF rssi.toInt s.cfg.wRssi
    snrF := filter s.snrF snr.toInt s.cfg.wSnr }

end Sys2Proof.Machine
end

