-- ==== Sys2Proof/Machine/Connection.lean ====
section
/-! DEFINITION. The connection state machine (`44_connection_fsm.md`). -/

namespace Sys2Proof.Machine

/-- `EnterConnected(t_rx)` (R194). -/
def State.enterConnected (s : State) (tRx : Time) : State :=
  { s with linkState := .connected, scanAnchorTs := tRx }.emit .signalLinkUp

/-- `EnterDisconnected()` (R193). -/
def State.enterDisconnected (s : State) : State :=
  let s1 := { s with linkState := .disconnected }.filterResetAll
  let s2 := { s1 with freqCorr := 0 }.emit (.radioSetFrequencyCorrection 0)
  (s2.hopReturnToInitial.emit .radioBeginReceive).emit .signalLinkDown

/-- The state decision of `OnSync`: at most one transition (R187 to R190). -/
def State.syncTransition (s : State) (hop nonce : Byte) (tRx : Time) : State :=
  match s.linkState with
  | .disconnected => { s with linkState := .tentative }
  | .tentative => if s.predicts hop nonce then s.enterConnected tRx else s
  | .connected => s

/-- Loading the schedule position (R191). -/
def State.loadSchedule (s : State) (hop nonce profile : Byte) : State :=
  { { s with nonce := nonce }.hopSetIndex hop with syncProfile := profile }

/-- `OnSync(f, t_rx)` (R187). -/
def State.onSync (s : State) (hop nonce profile : Byte) (tRx : Time) : State :=
  (s.syncTransition hop nonce tRx).loadSchedule hop nonce profile

/-- `CheckTimeout(now)` (R192). -/
def State.checkTimeout (s : State) (now : Time) : State :=
  if s.timedOut now then s.enterDisconnected else s

end Sys2Proof.Machine
end

