-- ==== Sys2Proof/Machine/FrameActions.lean ====
section
/-! DEFINITION. The actions that the four inbound frame types select (`45_scheduler_events.md` rules R215
to R218). Inside FRAME_RX they run after the common actions and before the phase correction. -/

namespace Sys2Proof.Machine

/-- All four `CH` in one event, with the strobe (R215, R22). -/
def State.rcAction (s : State) (c : Channels) : State := { s with ch := c }.emit .serialRcValid

/-- All four `SW` in one event, with the strobe (R216, R22). -/
def State.switchAction (s : State) (w : Switches) : State := { s with sw := w }.emit .serialSwValid

/-- The type-specific action of an accepted frame that arrived at `tRx` (R212). -/
def State.frameAction (s : State) (f : ParsedFrame) (tRx : Time) : State :=
  match f with
  | .rcData c0 c1 c2 c3 => s.rcAction ⟨c0, c1, c2, c3⟩
  | .switchData w0 w1 w2 w3 _ _ => s.switchAction ⟨w0, w1, w2, w3⟩
  | .sync hop nonce profile => s.onSync hop nonce profile tRx
  | .telemetry _ _ _ _ _ _ => s

/-- Row RC_DATA (R215). -/
def execRcData (c0 c1 c2 c3 : BitVec 11) (s : State) : Host.Outcome State Fault Refusal :=
  .next (s.rcAction ⟨c0, c1, c2, c3⟩)

/-- Row SWITCH_DATA; the carried hop index and nonce are neither loaded nor compared (R216). -/
def execSwitchData (w0 w1 w2 w3 : BitVec 3) (_hop _nonce : Byte) (s : State) :
    Host.Outcome State Fault Refusal :=
  .next (s.switchAction ⟨w0, w1, w2, w3⟩)

/-- Row SYNC (R217). The arrival time is where the common actions have just put it, in `LAST_VALID_TS`
(R214). Log entry 9. -/
def execSync (hop nonce profile : Byte) (s : State) : Host.Outcome State Fault Refusal :=
  .next (s.onSync hop nonce profile s.lastValidTs)

/-- Row TELEMETRY, inbound: inert (R218). -/
def execTelemetry (_p0 _p1 _p2 _p3 _p4 _p5 : Byte) (s : State) : Host.Outcome State Fault Refusal :=
  .next s

end Sys2Proof.Machine
end

