-- ==== Sys2Proof/Machine/LinkQuality.lean ====
section
/-! DEFINITION. The link-quality window tracker (`43_link_quality.md`); `LQ()` itself is
`State.lq` in Operands.lean. -/

namespace Sys2Proof.Machine

/-- `LQ_Record(hit)` (R176). -/
def State.lqRecord (s : State) (hit : Bool) : State :=
  { s with lqw := s.lqw.set s.lqCursor hit, lqCursor := s.lqCursor + 1 }

/-- `LQ_Reset()` (R178). -/
def State.lqReset (s : State) : State :=
  { s with lqw := Vector.replicate 100 false, lqCursor := 0, frameSeen := false }

end Sys2Proof.Machine
end

