-- ==== Sys2Proof/Machine/Events.lean ====
section
/-! DEFINITION. The four events (`45_scheduler_events.md`, `70_reset_and_hazards.md` rule R265). -/

namespace Sys2Proof.Machine

/-! ## TICK -/

/-- Slot bookkeeping (R207). -/
def State.closeSlot (s : State) (now : Time) : State :=
  { { s with lastTickTs := now }.lqRecord s.frameSeen with frameSeen := false }

/-- Nonce advance, modulo 256 (R208). -/
def State.nonceAdvance (s : State) : State := { s with nonce := s.nonce + 1 }

/-- The hop action with its condition (R209). -/
def State.hopAction (s : State) (freqErr : BitVec 32) : State :=
  if s.hopDue then
    let s1 := (s.freqCorrectStep freqErr).hopAdvance
    (s1.emit (.radioSetFrequency s1.currentFrequency)).emit .radioBeginReceive
  else s

/-- The telemetry action with its condition (R210). -/
def State.tlmAction (s : State) : State :=
  if s.tlmDue then { s.emit (.radioTransmit s.tlmFrame) with frameSeen := true } else s

/-- `TICK(now, freq_err)`, hop before telemetry (R206, R211). -/
def State.tick (s : State) (now : Time) (freqErr : BitVec 32) : State :=
  (((((s.beginEvent .tick).closeSlot now).nonceAdvance).hopAction freqErr).tlmAction)

/-- Row TICK. -/
def execTick (now : Time) (freqErr : BitVec 32) (s : State) : Host.Outcome State Fault Refusal :=
  .next (s.tick now freqErr)

/-! ## FRAME_RX -/

/-- The common actions of an accepted frame (R214). -/
def State.acceptFrame (s : State) (tRx : Time) (rssi : BitVec 16) (snr : BitVec 8) : State :=
  { s with lastValidTs := tRx, frameSeen := true }.statsUpdate rssi snr

/-- `FRAME_RX(t_rx, b, rssi, snr)` (R212). -/
def State.frameRx (s : State) (tRx : Time) (b : Frame) (rssi : BitVec 16) (snr : BitVec 8) : State :=
  match decodeFrame s.cfg b with
  | .error k => (s.beginEvent .rx).raiseDecodeError k
  | .ok f =>
    ((((s.beginEvent .rx).acceptFrame tRx rssi snr).frameAction f tRx).phaseCorrect tRx).present (.ok f)

/-- Row FRAME_RX. -/
def execFrameRx (tRx : Time) (b : Frame) (rssi : BitVec 16) (snr : BitVec 8) (s : State) :
    Host.Outcome State Fault Refusal :=
  .next (s.frameRx tRx b rssi snr)

/-! ## POLL -/

/-- `SetProfile(p, now)` (R222). -/
def State.setProfile (s : State) (p : BitVec 8) (now : Time) : State :=
  let r := profileAt s.cfg p.toNat
  let s1 := { s with profileIdx := p, hopIdx := 0 }
  let s2 := (s1.emit (.radioConfigure r.mod (s.hopFrequency 0) s.cfg.syncWord)).emit
    (.timerSetInterval r.frameIntervalUs)
  { (s2.lqReset.filterResetAll).emit .radioBeginReceive with scanAnchorTs := now }

/-- `(PROFILE_IDX + 1) mod NPROF` (R220). -/
def State.nextProfile (s : State) : BitVec 8 :=
  BitVec.ofNat 8 ((s.profileIdx.toNat + 1) % s.cfg.nprof)

/-- The rate scan with its condition (R221, R222). -/
def State.rateScan (s : State) (now : Time) (scanEnable : Bool) : State :=
  if s.scanDue now scanEnable then s.setProfile s.nextProfile now else s

/-- `POLL(now, scan_enable)`: the timeout first (R220, R223). -/
def State.poll (s : State) (now : Time) (scanEnable : Bool) : State :=
  ((s.beginEvent .poll).checkTimeout now).rateScan now scanEnable

/-- Row POLL. -/
def execPoll (now : Time) (scanEnable : Bool) (s : State) : Host.Outcome State Fault Refusal :=
  .next (s.poll now scanEnable)

/-! ## RESET -/

/-- The registers and tables that RESET writes (R265, R44). -/
def State.resetRegisters (s : State) (now : Time) : State :=
  { ({ s with
        seq := s.cfg.sequence
        profileIdx := s.cfg.bootProfile
        linkState := .disconnected
        hopIdx := 0
        nonce := 0 }.filterResetAll).lqReset with
    freqCorr := 0
    errCount := 0
    ch := ⟨0, 0, 0, 0⟩
    sw := ⟨0, 0, 0, 0⟩
    syncProfile := 0
    lastTickTs := now
    lastValidTs := now
    scanAnchorTs := now }

/-- The four commands of RESET (R265). -/
def State.resetCommands (s : State) : State :=
  (((s.emit (.radioConfigure s.profile.mod (s.hopFrequency 0) s.cfg.syncWord)).emit
    (.radioSetFrequencyCorrection 0)).emit (.timerSetInterval s.profile.frameIntervalUs)).emit
    .radioBeginReceive

/-- `RESET(now)` (R265). Pending requests stay pending (R269). -/
def State.resetEvent (s : State) (now : Time) : State :=
  ((s.beginEvent .rst).resetRegisters now).resetCommands

/-- Row RESET. -/
def execReset (now : Time) (s : State) : Host.Outcome State Fault Refusal := .next (s.resetEvent now)

end Sys2Proof.Machine
end

