-- ==== Sys2Proof/Machine/Dispatch.lean ====
section
/-! DEFINITION. The meaning of each instruction, one arm per row of `opcode_table.json`. -/

namespace Sys2Proof.Machine

def exec (i : Instr) (s : State) : Host.Outcome State Fault Refusal :=
  match i with
  | .rcData c0 c1 c2 c3 => Sys2Proof.Machine.execRcData c0 c1 c2 c3 s
  | .switchData w0 w1 w2 w3 hop nonce => Sys2Proof.Machine.execSwitchData w0 w1 w2 w3 hop nonce s
  | .sync hop nonce profile => Sys2Proof.Machine.execSync hop nonce profile s
  | .telemetry p0 p1 p2 p3 p4 p5 => Sys2Proof.Machine.execTelemetry p0 p1 p2 p3 p4 p5 s
  | .encSync hop nonce prof => Sys2Proof.Machine.execEncSync hop nonce prof s
  | .encTlm => Sys2Proof.Machine.execEncTlm s
  | .tick now freqErr => Sys2Proof.Machine.execTick now freqErr s
  | .frameRx tRx b rssi snr => Sys2Proof.Machine.execFrameRx tRx b rssi snr s
  | .poll now scanEnable => Sys2Proof.Machine.execPoll now scanEnable s
  | .reset now => Sys2Proof.Machine.execReset now s

end Sys2Proof.Machine
end

