-- ==== Sys2Proof/Machine/StatusPort.lean ====
section
/-! DEFINITION. What an observer reads between events: the status port and the level outputs
(`10_state.md` rules R42, R53; `20_memory.md` rules R65, R75). -/

namespace Sys2Proof.Machine

/-- A read of status register `S<n>`, extended to 64 bits; S27 and above read as 0 (R42, U6). -/
def State.readStatus (s : State) (n : Nat) : BitVec 64 :=
  match n with
  | 0 => s.linkState.code.setWidth 64
  | 1 => s.profileIdx.setWidth 64
  | 2 => s.hopIdx.setWidth 64
  | 3 => s.nonce.setWidth 64
  | 4 => s.freqCorr.signExtend 64
  | 5 => s.phaseF.signExtend 64
  | 6 => s.freqF.signExtend 64
  | 7 => s.rssiF.signExtend 64
  | 8 => s.snrF.signExtend 64
  | 9 => BitVec.ofNat 64 s.lq
  | 10 => BitVec.ofNat 64 s.lqCursor.val
  | 11 => BitVec.ofNat 64 s.frameSeen.toNat
  | 12 => s.errCount.setWidth 64
  | 13 => s.lastTickTs
  | 14 => s.lastValidTs
  | 15 => s.scanAnchorTs
  | 16 => s.syncProfile.setWidth 64
  | 17 => s.ch.ch0.setWidth 64
  | 18 => s.ch.ch1.setWidth 64
  | 19 => s.ch.ch2.setWidth 64
  | 20 => s.ch.ch3.setWidth 64
  | 21 => s.sw.sw0.setWidth 64
  | 22 => s.sw.sw1.setWidth 64
  | 23 => s.sw.sw2.setWidth 64
  | 24 => s.sw.sw3.setWidth 64
  | 25 => s.currentFrequency.setWidth 64
  | 26 => (deviceAddr s.cfg).setWidth 64
  | _ => 0

/-- The level outputs, driven from state (R53). -/
structure Levels where
  linkState : BitVec 2
  profileId : BitVec 8
  ch : Channels
  sw : Switches
  lq : BitVec 7
  rssiF : BitVec 32
  snrF : BitVec 32
  deriving DecidableEq, Repr

/-- The level outputs of a state (R53). -/
def State.levels (s : State) : Levels where
  linkState := s.linkState.code
  profileId := s.profileIdx
  ch := s.ch
  sw := s.sw
  lq := BitVec.ofNat 7 s.lq
  rssiF := s.rssiF
  snrF := s.snrF

/-- The 3-bit `result` output, present when the last grant was FRAME_RX (R212). -/
def State.result (s : State) : Option (BitVec 3) := s.out.rx.map resultCode

end Sys2Proof.Machine
end

