-- ==== Sys2Proof/Machine/Step.lean ====
section
/-! DEFINITION. One grant point: triggers arrive, the arbiter grants, the granted event runs to completion
(`20_memory.md` rule R69, `60_exceptions.md` rule R245). -/

namespace Sys2Proof.Machine

/-- What the event ports say at the next grant point: the event granted, or why there is none. -/
def State.fetch (s : State) : Except GrantError Instr := decodeEvent s.arrive.req.ports

/-- One step. With nothing pending the block is idle (R95, R256); a grant vector that is not one-hot never
occurs and is refused (U6). -/
def step (s : State) : Host.Outcome State Fault Refusal :=
  match s.fetch with
  | .ok i => exec i s.arrive.serve
  | .error .idle => .next s.arrive.idle
  | .error .notOneHot => .refused .grantNotOneHot

/-- `s` with a table word on the request lines and no other trigger before the next grant. Log entry 8. -/
def State.withFetchWord (s : State) (nbits w : Nat) : State :=
  { s with req := requestsOfTableWord s.cfg nbits w, env := [] :: s.env }

end Sys2Proof.Machine
end

