-- ==== Sys2Proof/Safety.lean ====
section
/-! DEFINITION. What counts as a safe state and a safe run: the invariants of `10_state.md` rule R38 and
the transition table of `44_connection_fsm.md` rule R186, in the terms the statements use. -/

namespace Sys2Proof.Machine

/-- The invariants of R38 that the types do not already carry ((b) and (e) are carried by `Fin 100` and
`LinkState`). -/
structure State.Inv (s : State) : Prop where
  /-- (a) -/
  hop : s.hopIdx.toNat < s.cfg.hopN
  /-- (c) -/
  profile : s.profileIdx.toNat < s.cfg.nprof
  /-- (d), lower bound -/
  freqLow : s.cfg.freqMin.toInt ≤ s.freqCorr.toInt
  /-- (d), upper bound -/
  freqHigh : s.freqCorr.toInt ≤ s.cfg.freqMax.toInt
  /-- (f) -/
  perm : IsPermOf s.cfg.hopN s.seq
  /-- (g) -/
  neutral : s.linkState = .disconnected → s.freqCorr = 0 ∧ s.freqF = 0 ∧ s.hopIdx = 0

/-- The rows of the transition table of R186, and staying in a state: which event may take `LINK_STATE`
from one value to another. -/
def mayMove : EventKind → LinkState → LinkState → Bool
  | .rst, _, .disconnected => true
  | .rx, .disconnected, .tentative => true
  | .rx, .tentative, .connected => true
  | .poll, .tentative, .disconnected => true
  | .poll, .connected, .disconnected => true
  | .rst, _, _ => false
  | _, a, b => a == b

/-- A state some sequence of steps reaches from `s`, whatever the environment does with the request lines
and its future triggers in between (`20_memory.md` rule R69). -/
inductive Reaches (s : State) : State → Prop where
  | start : Reaches s s
  | trigger {t : State} (h : Reaches s t) (req : Requests) (env : List (List Request)) :
      Reaches s { t with req := req, env := env }
  | step {t u : State} (h : Reaches s t) (hs : step t = .next u) : Reaches s u

/-! ## Terms of the statements -/

/-- The four events, against the frame actions and the encoders (R95). -/
def isEvent : Instr → Bool
  | .tick _ _ | .frameRx _ _ _ _ | .poll _ _ | .reset _ => true
  | .rcData _ _ _ _ | .switchData _ _ _ _ _ _ | .sync _ _ _ | .telemetry _ _ _ _ _ _
  | .encSync _ _ _ | .encTlm => false

/-- The frame whose `b[0..6]` are the 56 bits `w`, `b[0]` bit 7 first, and whose CRC byte is `c` (R12,
R80). Every frame is one of these. -/
def frameOfBits (w : BitVec 56) (c : Byte) : Frame :=
  ⟨w.extractLsb' 48 8, w.extractLsb' 40 8, w.extractLsb' 32 8, w.extractLsb' 24 8, w.extractLsb' 16 8,
    w.extractLsb' 8 8, w.extractLsb' 0 8, c⟩

/-- A frame passes the CRC and the address check (R113, R114). -/
abbrev Addressed (cfg : Config) (b : Frame) : Prop :=
  crc8 b.body + cfg.crcOffset = b.crc ∧ b.addr = deviceAddr cfg

/-- A signed 32-bit sample (R156). -/
abbrev Fits32 (x : Int) : Prop := -2 ^ 31 ≤ x ∧ x < 2 ^ 31

/-- The error `E - v_k` of a filter after `k` updates with the constant sample `E` (R157). -/
def filterError (v : BitVec 32) (e : Int) (w k : Nat) : Int :=
  e - ((fun u => filter u e w)^[k] v).toInt

/-- `n` successive hop advances (R146). -/
def advances (s : State) (n : Nat) : State := State.hopAdvance^[n] s

/-- A hop boundary at nonce `n` for a state with profile and link of `s`: the words of R209. -/
abbrev HopAt (s : State) (n : BitVec 8) : Prop :=
  s.profile.hopInterval ≠ 0 ∧ (n.toNat + 1) % s.profile.hopInterval.toNat = 0 ∧
    s.linkState ≠ .disconnected

/-- A telemetry reply is due at nonce `n`: the words of R210. -/
abbrev TlmAt (s : State) (n : BitVec 8) : Prop :=
  s.profile.tlmRatio ≠ 0 ∧ (n.toNat + 1) % s.profile.tlmRatio.toNat = 0 ∧ s.linkState = .connected

/-- A poll at `now` finds the link lost: the words of R192. -/
abbrev DropsAt (s : State) (now : Time) : Prop :=
  s.linkState ≠ .disconnected ∧
    s.profile.timeoutUs.toNat + (if s.linkState = .tentative then s.cfg.tentativeGraceUs.toNat else 0) <
      (now - s.lastValidTs).toNat

/-- A poll at `now` switches the profile, in the link state the timeout test leaves: the words of R220 and
R221. -/
abbrev ScansAt (s : State) (now : Time) (scanEnable : Bool) : Prop :=
  (s.linkState = .disconnected ∨ DropsAt s now) ∧ scanEnable = true ∧
    s.profile.scanDwellUs.toNat < (now - s.scanAnchorTs).toNat

/-- The phase sample `raw` of a frame that arrives at `tRx`: the words of R159. -/
def phaseSample (s : State) (tRx : Time) : Int :=
  (((tRx - s.lastTickTs).toNat % s.profile.frameIntervalUs.toNat : Nat) : Int) -
    ((s.profile.frameIntervalUs.toNat / 2 : Nat) : Int)

end Sys2Proof.Machine
end

