-- ==== Sys2Proof/Certificates/Slice0/Obligations.lean ====
section
/-! DEFINITION. The statements for the provers. Each docstring names the rules it formalises. -/

open Sys2Proof Sys2Proof.Machine

/-! ## Words and frames -/

/-- R97, R99, R126, R127, R95: decoding the word of a well-formed instruction gives the instruction back,
with every operand at every value the encoding admits, in every configuration. -/
def Obligations.DecodeInvertsEncode : Prop :=
  ∀ (cfg : Config) (i : Instr), WellFormed cfg i = true → decode cfg (encode cfg i) = .ok i

/-- R86, R87, R119, R120: an accepted SYNC or TELEMETRY frame is exactly the encoding of what it decodes to;
no bit of it is dropped. -/
def Obligations.AcceptedSyncAndTelemetryReencode : Prop :=
  ∀ (cfg : Config) (b : Frame) (i : Instr), decode cfg (.frameIn b) = .ok i →
    (b.type = 2 ∨ b.type = 3) → encode cfg i = .frameIn b

/-- R128: both encoders' frames decode to what was encoded, and a block that hears its own reply treats it
as an inert inbound TELEMETRY frame: only the common actions and the phase correction. -/
def Obligations.EncodedFramesDecodeBack : Prop :=
  (∀ (cfg : Config) (hop nonce prof : Byte),
    decodeFrame cfg (encSyncFrame cfg hop nonce prof) = .ok (.sync hop nonce prof)) ∧
  (∀ s : State, decodeFrame s.cfg s.tlmFrame =
    .ok (.telemetry (s.rssiF.setWidth 8) (s.snrF.setWidth 8) (BitVec.ofNat 8 s.lq) 0 0 0)) ∧
  (∀ (s : State) (tRx : Time) (rssi : BitVec 16) (snr : BitVec 8),
    exec (.frameRx tRx s.tlmFrame rssi snr) s =
      .next ((((s.beginEvent .rx).acceptFrame tRx rssi snr).phaseCorrect tRx).present
        (.ok (.telemetry (s.rssiF.setWidth 8) (s.snrF.setWidth 8) (BitVec.ofNat 8 s.lq) 0 0 0))))

/-- Words written out in `30_encoding.md` and `95_test_vectors.md`, decoded under REFCFG; the grant vectors
of R95. -/
def Obligations.SpecWordsDecodeAsWritten : Prop :=
  decode refcfg (.frameIn ⟨0x18, 0x10, 0x20, 0x30, 0x40, 0xE0, 0x00, 0x09⟩) =
    .ok (.rcData 135 256 384 512) ∧
  decode refcfg (.frameIn ⟨0x19, 0xAE, 0xD0, 0x02, 0x05, 0x02, 0x05, 0x92⟩) =
    .ok (.switchData 5 3 5 5 2 5) ∧
  decode refcfg (.frameIn ⟨0x1A, 0x02, 0x05, 0x00, 0x04, 0x05, 0x06, 0x21⟩) = .ok (.sync 2 5 0) ∧
  decode refcfg (.frameIn ⟨0x1B, 0x09, 0x08, 0x07, 0x06, 0x05, 0x04, 0xBC⟩) =
    .ok (.telemetry 9 8 7 6 5 4) ∧
  decode refcfg (.frameOut ⟨0x1A, 0x02, 0x05, 0x00, 0x04, 0x05, 0x06, 0x21⟩) = .ok (.encSync 2 5 0) ∧
  decode refcfg (.frameOut ⟨0x1B, 0xD1, 0x05, 0x03, 0x00, 0x00, 0x00, 0xFF⟩) = .ok .encTlm ∧
  decode refcfg (.event (quietPorts 0b0001)) = .ok (.tick 0 0) ∧
  decode refcfg (.event (quietPorts 0b0010)) = .ok (.frameRx 0 ⟨0, 0, 0, 0, 0, 0, 0, 0⟩ 0 0) ∧
  decode refcfg (.event (quietPorts 0b0100)) = .ok (.poll 0 false) ∧
  decode refcfg (.event (quietPorts 0b1000)) = .ok (.reset 0) ∧
  decode refcfg (.event (quietPorts 0b0000)) = .error (.grant .idle) ∧
  decode refcfg (.event (quietPorts 0b0011)) = .error (.grant .notOneHot)

/-- R113, R114, R118, R119, R241: each decode error is raised exactly under its condition, in the order CRC,
address, type; `UnknownFrameType` never. -/
def Obligations.DecodeErrorsExactlyAsListed : Prop :=
  ∀ (cfg : Config) (b : Frame),
    (decodeFrame cfg b = .error .crcMismatch ↔ b.crc ≠ crc8 b.body + cfg.crcOffset) ∧
    (decodeFrame cfg b = .error .addressMismatch ↔
      b.crc = crc8 b.body + cfg.crcOffset ∧ b.header.toNat / 4 ≠ cfg.uid.u5.toNat % 64) ∧
    (decodeFrame cfg b = .error .redundancyMismatch ↔
      Addressed cfg b ∧ b.type = 1 ∧ (b.p2 ≠ b.p4 ∨ b.p3 ≠ b.p5)) ∧
    (decodeFrame cfg b = .error .identityMismatch ↔
      Addressed cfg b ∧ b.type = 2 ∧
        (b.p3 ≠ cfg.uid.u3 ∨ b.p4 ≠ cfg.uid.u4 ∨ b.p5 ≠ cfg.uid.u5)) ∧
    decodeFrame cfg b ≠ .error .unknownFrameType

/-- R124: for every prefix exactly one CRC byte passes the check; a change of the CRC byte alone fails it;
every error burst confined to 8 consecutive bits of `b[0..6]`, a single bit among them, changes the checksum,
so a frame that passed fails. -/
def Obligations.CrcDetectsBurstErrors : Prop :=
  ∀ (cfg : Config) (w : BitVec 56),
    (∀ c : Byte, decodeFrame cfg (frameOfBits w c) ≠ .error .crcMismatch ↔
      c = crc8 (frameOfBits w 0).body + cfg.crcOffset) ∧
    (∀ (c d : Byte), decodeFrame cfg (frameOfBits w c) ≠ .error .crcMismatch → d ≠ 0 →
      decodeFrame cfg (frameOfBits w (c ^^^ d)) = .error .crcMismatch) ∧
    (∀ (d : Byte) (k : Nat), d.setWidth 56 <<< k ≠ 0 →
      crc8 (frameOfBits (w ^^^ (d.setWidth 56 <<< k)) 0).body ≠ crc8 (frameOfBits w 0).body) ∧
    (∀ (c d : Byte) (k : Nat), d.setWidth 56 <<< k ≠ 0 →
      decodeFrame cfg (frameOfBits w c) ≠ .error .crcMismatch →
      decodeFrame cfg (frameOfBits (w ^^^ (d.setWidth 56 <<< k)) c) = .error .crcMismatch)

/-- R116, R90: an RC_DATA frame for this device under L11 decodes, each channel the 8 high bits from its
payload byte and the 3 low bits from the places of R83. -/
def Obligations.RcDataL11ChannelValues : Prop :=
  ∀ (cfg : Config) (b : Frame), Addressed cfg b → b.type = 0 → cfg.rcLayout = .L11 →
    ∃ c0 c1 c2 c3 : BitVec 11, decodeFrame cfg b = .ok (.rcData c0 c1 c2 c3) ∧
      c0.toNat = 8 * b.p0.toNat + b.p4.toNat / 32 ∧
      c1.toNat = 8 * b.p1.toNat + b.p4.toNat / 4 % 8 ∧
      c2.toNat = 8 * b.p2.toNat + 2 * (b.p4.toNat % 4) + b.p5.toNat / 128 ∧
      c3.toNat = 8 * b.p3.toNat + b.p5.toNat / 16 % 8

/-- R117, R91: the same under L10: a 10-bit value from the places of R84, shifted left by one. -/
def Obligations.RcDataL10ChannelValues : Prop :=
  ∀ (cfg : Config) (b : Frame), Addressed cfg b → b.type = 0 → cfg.rcLayout = .L10 →
    ∃ c0 c1 c2 c3 : BitVec 11, decodeFrame cfg b = .ok (.rcData c0 c1 c2 c3) ∧
      c0.toNat = 2 * (4 * b.p0.toNat + b.p4.toNat / 64) ∧
      c1.toNat = 2 * (4 * b.p1.toNat + b.p4.toNat / 16 % 4) ∧
      c2.toNat = 2 * (4 * b.p2.toNat + b.p4.toNat / 4 % 4) ∧
      c3.toNat = 2 * (4 * b.p3.toNat + b.p4.toNat % 4)

/-- R118, R92: a SWITCH_DATA frame for this device whose copies agree decodes to the switches of R85 and the
carried hop index and nonce; one whose copies disagree raises `RedundancyMismatch`. -/
def Obligations.SwitchDataValues : Prop :=
  ∀ (cfg : Config) (b : Frame), Addressed cfg b → b.type = 1 →
    if b.p2 = b.p4 ∧ b.p3 = b.p5 then
      ∃ w0 w1 w2 w3 : BitVec 3, decodeFrame cfg b = .ok (.switchData w0 w1 w2 w3 b.p2 b.p3) ∧
        w0.toNat = b.p0.toNat / 32 ∧ w1.toNat = b.p0.toNat / 4 % 8 ∧
        w2.toNat = 2 * (b.p0.toNat % 4) + b.p1.toNat / 128 ∧ w3.toNat = b.p1.toNat / 16 % 8
    else decodeFrame cfg b = .error .redundancyMismatch

/-- R119, R120: a SYNC frame for this device decodes to its first three payload bytes, unchecked, when its
last three are the identity suffix, and else raises `IdentityMismatch`; a TELEMETRY frame decodes to its six
bytes as they are. -/
def Obligations.SyncAndTelemetryValues : Prop :=
  ∀ (cfg : Config) (b : Frame), Addressed cfg b →
    (b.type = 2 → decodeFrame cfg b =
      if b.p3 = cfg.uid.u3 ∧ b.p4 = cfg.uid.u4 ∧ b.p5 = cfg.uid.u5 then .ok (.sync b.p0 b.p1 b.p2)
      else .error .identityMismatch) ∧
    (b.type = 3 → decodeFrame cfg b = .ok (.telemetry b.p0 b.p1 b.p2 b.p3 b.p4 b.p5))

/-- R93: the unused payload bits do not reach the result: two frames for this device that differ only there
(and in the CRC byte, which covers them) decode alike. -/
def Obligations.UnusedBitsDoNotReachTheResult : Prop :=
  ∀ (cfg : Config) (b : Frame) (x c : Byte),
    Addressed cfg b →
    (Addressed cfg { b with p5 := x, crc := c } → b.type = 0 → cfg.rcLayout = .L10 →
      decodeFrame cfg { b with p5 := x, crc := c } = decodeFrame cfg b) ∧
    (Addressed cfg { b with p5 := x, crc := c } → b.type = 0 → cfg.rcLayout = .L11 →
      x.toNat / 16 = b.p5.toNat / 16 →
      decodeFrame cfg { b with p5 := x, crc := c } = decodeFrame cfg b) ∧
    (Addressed cfg { b with p1 := x, crc := c } → b.type = 1 → x.toNat / 16 = b.p1.toNat / 16 →
      decodeFrame cfg { b with p1 := x, crc := c } = decodeFrame cfg b)

/-! ## The frame actions and the encoders -/

/-- R215: RC_DATA stores its four channels, all at once, and emits the strobe; nothing else changes. -/
def Obligations.RcDataStoresChannels : Prop :=
  ∀ (s : State) (c0 c1 c2 c3 : BitVec 11), exec (.rcData c0 c1 c2 c3) s =
    .next { s with
      ch := ⟨c0, c1, c2, c3⟩, out := { s.out with cmds := s.out.cmds ++ [.serialRcValid] } }

/-- R216: SWITCH_DATA stores its four switches and emits the strobe; the carried hop index and nonce go
nowhere. -/
def Obligations.SwitchDataStoresSwitches : Prop :=
  ∀ (s : State) (w0 w1 w2 w3 : BitVec 3) (hop nonce : Byte),
    exec (.switchData w0 w1 w2 w3 hop nonce) s =
      .next { s with
        sw := ⟨w0, w1, w2, w3⟩, out := { s.out with cmds := s.out.cmds ++ [.serialSwValid] } }

/-- R187, R191, with the arrival time read from `LAST_VALID_TS` (the model's choice, log entry 9): SYNC makes
at most one transition, then loads `NONCE`, `HOP_IDX` (reduced) and `SYNC_PROFILE`; entering Connected also
sets the scan anchor and signals link up; nothing else changes. -/
def Obligations.SyncMovesTheLinkAndLoadsTheSchedule : Prop :=
  ∀ (s : State) (hop nonce prof : Byte), ∃ t, exec (.sync hop nonce prof) s = .next t ∧
    t.nonce = nonce ∧ t.hopIdx.toNat = hop.toNat % s.cfg.hopN ∧ t.syncProfile = prof ∧
    (s.linkState = .disconnected → t.linkState = .tentative) ∧
    (s.linkState = .tentative → nonce = s.nonce → hop = s.hopIdx → t.linkState = .connected) ∧
    (s.linkState = .tentative → (nonce ≠ s.nonce ∨ hop ≠ s.hopIdx) → t.linkState = .tentative) ∧
    (s.linkState = .connected → t.linkState = .connected) ∧
    (if s.linkState = .tentative ∧ t.linkState = .connected then
      t.scanAnchorTs = s.lastValidTs ∧ t.out.cmds = s.out.cmds ++ [.signalLinkUp]
    else t.scanAnchorTs = s.scanAnchorTs ∧ t.out.cmds = s.out.cmds) ∧
    t = { s with
      nonce := t.nonce, hopIdx := t.hopIdx, syncProfile := t.syncProfile, linkState := t.linkState,
      scanAnchorTs := t.scanAnchorTs, out := { s.out with cmds := t.out.cmds } }

/-- R218: inbound TELEMETRY has no type-specific effect; as an accepted frame it gets the common actions and
the phase correction, and its payload goes nowhere but to the result output. -/
def Obligations.InboundTelemetryIsInert : Prop :=
  (∀ (s : State) (p0 p1 p2 p3 p4 p5 : Byte), exec (.telemetry p0 p1 p2 p3 p4 p5) s = .next s) ∧
  (∀ (s : State) (tRx : Time) (b : Frame) (rssi : BitVec 16) (snr : BitVec 8)
    (p0 p1 p2 p3 p4 p5 : Byte), decodeFrame s.cfg b = .ok (.telemetry p0 p1 p2 p3 p4 p5) →
    exec (.frameRx tRx b rssi snr) s =
      .next ((((s.beginEvent .rx).acceptFrame tRx rssi snr).phaseCorrect tRx).present
        (.ok (.telemetry p0 p1 p2 p3 p4 p5))))

/-- R127, R86, R89, R125: ENC_SYNC returns the SYNC frame of its arguments; nothing else changes. -/
def Obligations.EncSyncReturnsTheFrame : Prop :=
  ∀ (s : State) (hop nonce prof : Byte), ∃ b : Frame,
    exec (.encSync hop nonce prof) s = .next { s with out := { s.out with enc := some b } } ∧
    b.header.toNat = 4 * (s.cfg.uid.u5.toNat % 64) + 2 ∧ b.p0 = hop ∧ b.p1 = nonce ∧ b.p2 = prof ∧
    b.p3 = s.cfg.uid.u3 ∧ b.p4 = s.cfg.uid.u4 ∧ b.p5 = s.cfg.uid.u5 ∧
    b.crc = crc8 [b.header, b.p0, b.p1, b.p2, b.p3, b.p4, b.p5] + s.cfg.crcOffset

/-- R126, R88, R89, R125: ENC_TLM returns the reply built from `RSSI_F`, `SNR_F` and `LQ()`; nothing else
changes. -/
def Obligations.EncTlmReturnsTheReply : Prop :=
  ∀ s : State, ∃ b : Frame, exec .encTlm s = .next { s with out := { s.out with enc := some b } } ∧
    b.header.toNat = 4 * (s.cfg.uid.u5.toNat % 64) + 3 ∧
    b.p0.toNat = s.rssiF.toNat % 256 ∧ b.p1.toNat = s.snrF.toNat % 256 ∧
    b.p2.toNat = s.lqw.toList.count true ∧ b.p3 = 0 ∧ b.p4 = 0 ∧ b.p5 = 0 ∧
    b.crc = crc8 [b.header, b.p0, b.p1, b.p2, b.p3, b.p4, b.p5] + s.cfg.crcOffset

/-! ## TICK -/

/-- R206 to R210: what TICK leaves in every register. The tests use the nonce after the increment; only the
hop action writes `FREQ_F`, `FREQ_CORR` and `HOP_IDX`; only a reply leaves `FRAME_SEEN` set. -/
def Obligations.TickRegisters : Prop :=
  ∀ (s : State) (now : Time) (fe : BitVec 32), ∃ t, exec (.tick now fe) s = .next t ∧
    t.lastTickTs = now ∧ t.lqw = s.lqw.set s.lqCursor s.frameSeen ∧
    t.lqCursor.val = (s.lqCursor.val + 1) % 100 ∧ t.nonce.toNat = (s.nonce.toNat + 1) % 256 ∧
    (t.frameSeen = true ↔ TlmAt s t.nonce) ∧
    t.freqF = (if HopAt s t.nonce then filter s.freqF fe.toInt s.cfg.wFreq else s.freqF) ∧
    t.freqCorr = (if HopAt s t.nonce then stepCorrection s.cfg s.freqCorr t.freqF else s.freqCorr) ∧
    t.hopIdx.toNat =
      (if HopAt s t.nonce then (s.hopIdx.toNat + 1) % s.cfg.hopN else s.hopIdx.toNat) ∧
    t = { s with
      lastTickTs := t.lastTickTs, lqw := t.lqw, lqCursor := t.lqCursor, nonce := t.nonce,
      frameSeen := t.frameSeen, freqF := t.freqF, freqCorr := t.freqCorr, hopIdx := t.hopIdx,
      out := t.out }

/-- R209, R210, R211: the commands of TICK: the retune with the advanced index, then the reply, built from
the window after this tick's record. -/
def Obligations.TickCommands : Prop :=
  ∀ (s : State) (now : Time) (fe : BitVec 32), ∃ (t : State) (reply : Frame),
    exec (.tick now fe) s = .next t ∧
    t.out = {
      ack := some .tick
      cmds :=
        (if HopAt s t.nonce then
          [.radioSetFrequencyCorrection t.freqCorr,
            .radioSetFrequency (chanAt s.cfg (s.seq.getD t.hopIdx.toNat 0)), .radioBeginReceive]
        else []) ++ (if TlmAt s t.nonce then [.radioTransmit reply] else [])
      rx := none
      enc := none } ∧
    reply.header.toNat = 4 * (s.cfg.uid.u5.toNat % 64) + 3 ∧
    reply.p0.toNat = s.rssiF.toNat % 256 ∧ reply.p1.toNat = s.snrF.toNat % 256 ∧
    reply.p2.toNat = t.lqw.toList.count true ∧ reply.p3 = 0 ∧ reply.p4 = 0 ∧ reply.p5 = 0 ∧
    reply.crc = crc8 reply.body + s.cfg.crcOffset

/-- R225, R209, R210: in Disconnected a TICK emits nothing and hops nowhere; a reply is sent in Connected
only. -/
def Obligations.TickGatedByLinkState : Prop :=
  ∀ (s : State) (now : Time) (fe : BitVec 32), ∃ t, exec (.tick now fe) s = .next t ∧
    t.linkState = s.linkState ∧
    (s.linkState = .disconnected →
      t.out.cmds = [] ∧ t.hopIdx = s.hopIdx ∧ t.freqF = s.freqF ∧ t.freqCorr = s.freqCorr) ∧
    (s.linkState ≠ .connected → ∀ b, Cmd.radioTransmit b ∉ t.out.cmds)

/-- R273: when the hop interval divides 256 the schedule has no break at the nonce wrap: a boundary falls
exactly where the nonce is one less than a multiple of the interval, and recurs one interval later. -/
def Obligations.DividingIntervalsRecurAcrossTheWrap : Prop :=
  ∀ (s : State) (h : BitVec 8), h ≠ 0 → h.toNat ∣ 256 →
    (s.scheduled h = true ↔ s.nonce.toNat % h.toNat = h.toNat - 1) ∧
    ({ s with nonce := s.nonce + h }.scheduled h = s.scheduled h)

/-! ## FRAME_RX -/

/-- R213, R240: a rejected frame, of every kind, is counted modulo 2^32 and reported by the number that R236
gives its kind, and nothing else happens. -/
def Obligations.RejectedFrameOnlyCounts : Prop :=
  ∀ (s : State) (tRx : Time) (b : Frame) (rssi : BitVec 16) (snr : BitVec 8) (k : DecodeError),
    decodeFrame s.cfg b = .error k →
    ∃ t, exec (.frameRx tRx b rssi snr) s = .next t ∧
      t.errCount.toNat = (s.errCount.toNat + 1) % 2 ^ 32 ∧
      t.result = some (match k with
        | .crcMismatch => 1
        | .addressMismatch => 2
        | .redundancyMismatch => 3
        | .unknownFrameType => 4
        | .identityMismatch => 5) ∧
      t.out.cmds = [] ∧ t = { s with errCount := t.errCount, out := t.out }

/-- R212: FRAME_RX of a frame that decodes is the common actions, then the instruction the frame encodes,
then the phase correction. -/
def Obligations.AcceptedFrameRunsItsInstruction : Prop :=
  ∀ (s : State) (tRx : Time) (b : Frame) (rssi : BitVec 16) (snr : BitVec 8) (f : ParsedFrame),
    decodeFrame s.cfg b = .ok f →
    ∃ u, exec f.instr ((s.beginEvent .rx).acceptFrame tRx rssi snr) = .next u ∧
      exec (.frameRx tRx b rssi snr) s = .next ((u.phaseCorrect tRx).present (.ok f))

/-- R214, R215, R216, R217, R218, R219, R159: what FRAME_RX of an accepted frame leaves in every register, by
type, and its commands. -/
def Obligations.AcceptedFrameRegisters : Prop :=
  ∀ (s : State) (tRx : Time) (b : Frame) (rssi : BitVec 16) (snr : BitVec 8) (f : ParsedFrame),
    decodeFrame s.cfg b = .ok f →
    ∃ t, exec (.frameRx tRx b rssi snr) s = .next t ∧
      t.lastValidTs = tRx ∧ t.frameSeen = true ∧ t.result = some 0 ∧ t.out.rx = some (.ok f) ∧
      t.rssiF = filter s.rssiF rssi.toInt s.cfg.wRssi ∧ t.snrF = filter s.snrF snr.toInt s.cfg.wSnr ∧
      t.phaseF = filter s.phaseF (phaseSample s tRx) s.cfg.wPhase ∧
      (match f with
      | .rcData c0 c1 c2 c3 =>
        t.out.cmds = [.serialRcValid,
          .timerPhaseShift (BitVec.ofInt 32 (t.phaseF.toInt.tdiv s.cfg.phaseDiv))] ∧
        t = { s with
          lastValidTs := t.lastValidTs, frameSeen := t.frameSeen, rssiF := t.rssiF, snrF := t.snrF,
          phaseF := t.phaseF, out := t.out, ch := ⟨c0, c1, c2, c3⟩ }
      | .switchData w0 w1 w2 w3 _ _ =>
        t.out.cmds = [.serialSwValid,
          .timerPhaseShift (BitVec.ofInt 32 (t.phaseF.toInt.tdiv s.cfg.phaseDiv))] ∧
        t = { s with
          lastValidTs := t.lastValidTs, frameSeen := t.frameSeen, rssiF := t.rssiF, snrF := t.snrF,
          phaseF := t.phaseF, out := t.out, sw := ⟨w0, w1, w2, w3⟩ }
      | .sync hop nonce prof =>
        t.out.cmds =
          (if s.linkState = .tentative ∧ nonce = s.nonce ∧ hop = s.hopIdx then [.signalLinkUp] else []) ++
            [.timerPhaseShift (BitVec.ofInt 32 (t.phaseF.toInt.tdiv s.cfg.phaseDiv))] ∧
        t.hopIdx.toNat = hop.toNat % s.cfg.hopN ∧
        t = { s with
          lastValidTs := t.lastValidTs, frameSeen := t.frameSeen, rssiF := t.rssiF, snrF := t.snrF,
          phaseF := t.phaseF, out := t.out, nonce := nonce, hopIdx := t.hopIdx, syncProfile := prof,
          linkState := if s.linkState = .disconnected then .tentative
            else if s.linkState = .tentative ∧ nonce = s.nonce ∧ hop = s.hopIdx then .connected
            else s.linkState
          scanAnchorTs :=
            if s.linkState = .tentative ∧ nonce = s.nonce ∧ hop = s.hopIdx then tRx
            else s.scanAnchorTs }
      | .telemetry _ _ _ _ _ _ =>
        t.out.cmds = [.timerPhaseShift (BitVec.ofInt 32 (t.phaseF.toInt.tdiv s.cfg.phaseDiv))] ∧
        t = { s with
          lastValidTs := t.lastValidTs, frameSeen := t.frameSeen, rssiF := t.rssiF, snrF := t.snrF,
          phaseF := t.phaseF, out := t.out })

/-- R188, R189, R197: FRAME_RX changes `LINK_STATE` only on an accepted SYNC, from Disconnected to Tentative,
or from Tentative to Connected when the carried nonce and raw hop index are the predicted ones. -/
def Obligations.OnlySyncFramesMoveTheLink : Prop :=
  ∀ (s : State) (tRx : Time) (b : Frame) (rssi : BitVec 16) (snr : BitVec 8), ∃ t,
    exec (.frameRx tRx b rssi snr) s = .next t ∧
    (t.linkState ≠ s.linkState → ∃ hop nonce prof, decodeFrame s.cfg b = .ok (.sync hop nonce prof) ∧
      ((s.linkState = .disconnected ∧ t.linkState = .tentative) ∨
        (s.linkState = .tentative ∧ t.linkState = .connected ∧ nonce = s.nonce ∧ hop = s.hopIdx)))

/-- R218, C4: two TELEMETRY frames accepted alike leave the same state, whatever their payloads, but for the
decode result on the result output. -/
def Obligations.TelemetryPayloadIsNotObservable : Prop :=
  ∀ (s : State) (tRx : Time) (b b' : Frame) (rssi : BitVec 16) (snr : BitVec 8),
    Addressed s.cfg b → Addressed s.cfg b' → b.type = 3 → b'.type = 3 →
    ∃ t t', exec (.frameRx tRx b rssi snr) s = .next t ∧ exec (.frameRx tRx b' rssi snr) s = .next t' ∧
      t' = { t with out := { t.out with rx := t'.out.rx } }

/-! ## POLL -/

/-- R192, R220, R221, R222, R193: what POLL leaves in every register, for a poll that drops the link,
switches the profile, does both or neither. -/
def Obligations.PollRegisters : Prop :=
  ∀ (s : State) (now : Time) (scan : Bool), ∃ t, exec (.poll now scan) s = .next t ∧
    t.profileIdx.toNat =
      (if ScansAt s now scan then (s.profileIdx.toNat + 1) % s.cfg.nprof else s.profileIdx.toNat) ∧
    t = { s with
      profileIdx := t.profileIdx
      linkState := if DropsAt s now then .disconnected else s.linkState
      freqCorr := if DropsAt s now then 0 else s.freqCorr
      hopIdx := if DropsAt s now ∨ ScansAt s now scan then 0 else s.hopIdx
      phaseF := if DropsAt s now ∨ ScansAt s now scan then 0 else s.phaseF
      freqF := if DropsAt s now ∨ ScansAt s now scan then 0 else s.freqF
      rssiF := if DropsAt s now ∨ ScansAt s now scan then 0 else s.rssiF
      snrF := if DropsAt s now ∨ ScansAt s now scan then 0 else s.snrF
      lqw := if ScansAt s now scan then Vector.replicate 100 false else s.lqw
      lqCursor := if ScansAt s now scan then 0 else s.lqCursor
      frameSeen := if ScansAt s now scan then false else s.frameSeen
      scanAnchorTs := if ScansAt s now scan then now else s.scanAnchorTs
      out := t.out }

/-- R223, R193, R222: the commands of POLL, the timeout's before the scan's. -/
def Obligations.PollCommands : Prop :=
  ∀ (s : State) (now : Time) (scan : Bool), ∃ t, exec (.poll now scan) s = .next t ∧
    t.out = {
      ack := some .poll
      cmds :=
        (if DropsAt s now then
          [.radioSetFrequencyCorrection 0, .radioSetFrequency (chanAt s.cfg (s.seq.getD 0 0)),
            .radioBeginReceive, .signalLinkDown]
        else []) ++
        (if ScansAt s now scan then
          [.radioConfigure t.profile.mod (chanAt s.cfg (s.seq.getD 0 0)) s.cfg.syncWord,
            .timerSetInterval t.profile.frameIntervalUs, .radioBeginReceive]
        else [])
      rx := none
      enc := none }

/-! ## RESET -/

/-- R265, R44: RESET installs every reset value from any state, and emits its four commands; the
configuration and the pending requests stay (R269). -/
def Obligations.ResetInstallsTheResetValues : Prop :=
  ∀ (s : State) (now : Time), exec (.reset now) s = .next {
    cfg := s.cfg
    ch := ⟨0, 0, 0, 0⟩
    sw := ⟨0, 0, 0, 0⟩
    syncProfile := 0
    nonce := 0
    hopIdx := 0
    linkState := .disconnected
    profileIdx := s.cfg.bootProfile
    freqCorr := 0
    phaseF := 0
    freqF := 0
    rssiF := 0
    snrF := 0
    lqCursor := 0
    frameSeen := false
    errCount := 0
    lastTickTs := now
    lastValidTs := now
    scanAnchorTs := now
    seq := s.cfg.sequence
    lqw := Vector.replicate 100 false
    req := s.req
    env := s.env
    out := {
      ack := some .rst
      cmds := [
        .radioConfigure (profileAt s.cfg s.cfg.bootProfile.toNat).mod
          (chanAt s.cfg (s.cfg.sequence.getD 0 0)) s.cfg.syncWord,
        .radioSetFrequencyCorrection 0,
        .timerSetInterval (profileAt s.cfg s.cfg.bootProfile.toNat).frameIntervalUs,
        .radioBeginReceive]
      rx := none
      enc := none } }

/-- R265: the result of RESET depends only on `now` and the configuration, never on the state before it. -/
def Obligations.ResetForgetsThePast : Prop :=
  ∀ (s s' : State) (now : Time), s.cfg = s'.cfg → ∃ t t',
    exec (.reset now) s = .next t ∧ exec (.reset now) s' = .next t' ∧
    t' = { t with req := s'.req, env := s'.env }

/-- The model's choice (log entry 2): `State.reset` is what RESET at time 0 leaves under REFCFG with no
request pending. -/
def Obligations.ResetStateIsTheResetEventAtZero : Prop :=
  ∀ s : State, s.cfg = refcfg → s.req = .quiet → s.env = [] → exec (.reset 0) s = .next State.reset

/-! ## Steps and the arbiter -/

/-- R244: no instruction stops the block. -/
def Obligations.EveryInstructionCompletes : Prop :=
  ∀ (i : Instr) (s : State), ∃ t, exec i s = .next t

/-- R244, R95: no step stops the block, whatever is pending; the arbiter's grant is always one-hot or
idle. -/
def Obligations.EveryStepCompletes : Prop :=
  ∀ s : State, s.fetch ≠ .error .notOneHot ∧ ∃ t, step s = .next t

/-- R69, R245: a step runs the instruction that the event ports hold once the triggers have arrived, with its
line taken off; with none it holds the state (R256). That an idle step clears the outputs is the model's choice
(log entry 10), and so is the form of the environment's list and of arrival (log entry 4): arrival and the
taking of a line touch only the request lines and that list. -/
def Obligations.StepRunsTheGrantedInstruction : Prop :=
  ∀ s : State,
    (∀ i, decode s.cfg (.event s.arrive.req.ports) = .ok i → step s = exec i s.arrive.serve) ∧
    (decode s.cfg (.event s.arrive.req.ports) = .error (.grant .idle) →
      step s = .next { s.arrive with out := .quiet }) ∧
    s.arrive = { s with req := s.req.triggerAll (s.env.headD []), env := s.env.tail } ∧
    s.arrive.serve = { s.arrive with req := s.arrive.req.serve }

/-- R245: RESET before TICK before FRAME_RX before POLL, each with the operands its line carries. -/
def Obligations.ArbiterGrantsByPriority : Prop :=
  ∀ (r : Requests),
    (∀ now, r.rst = some now →
      decodeEvent r.ports = .ok (.reset now) ∧ r.serve = { r with rst := none }) ∧
    (∀ o, r.rst = none → r.tick = some o →
      decodeEvent r.ports = .ok (.tick o.now o.freqErr) ∧ r.serve = { r with tick := none }) ∧
    (∀ o, r.rst = none → r.tick = none → r.rx = some o →
      decodeEvent r.ports = .ok (.frameRx o.tRx o.b o.rssi o.snr) ∧ r.serve = { r with rx := none }) ∧
    (∀ o, r.rst = none → r.tick = none → r.rx = none → r.poll = some o →
      decodeEvent r.ports = .ok (.poll o.now o.scanEnable) ∧ r.serve = { r with poll := none }) ∧
    (r = .quiet → decodeEvent r.ports = .error .idle ∧ r.serve = r)

/-- R246, R245, R275: a step leaves on the lines exactly the requests that arrived and were not granted, with
their operands; a trigger asserts a free line and is lost on a busy one. -/
def Obligations.UngrantedRequestsStayPending : Prop :=
  (∀ s t : State, step s = .next t →
    t.req = (s.req.triggerAll (s.env.headD [])).serve ∧ t.env = s.env.tail) ∧
  (∀ (r : Requests) (now : Time),
    r.trigger (.rst now) = { r with rst := some (r.rst.getD now) }) ∧
  (∀ (r : Requests) (o : TickOps), r.trigger (.tick o) = { r with tick := some (r.tick.getD o) }) ∧
  (∀ (r : Requests) (o : RxOps), r.trigger (.rx o) = { r with rx := some (r.rx.getD o) }) ∧
  (∀ (r : Requests) (o : PollOps), r.trigger (.poll o) = { r with poll := some (r.poll.getD o) })

/-- R41, R247: an event reads neither the outputs of the event before it, nor the request lines, nor the
future triggers. -/
def Obligations.EventsDoNotReadTheirSurroundings : Prop :=
  ∀ (s : State) (i : Instr) (o : Outputs) (r : Requests) (e : List (List Request)),
    isEvent i = true →
    ∃ t, exec i s = .next t ∧
      exec i { s with out := o, req := r, env := e } = .next { t with req := r, env := e }

/-! ## Invariants -/

/-- R38 at `State.reset`, which is the model's choice of a reset state (log entry 2). -/
def Obligations.InvariantHoldsAtReset : Prop := State.reset.Inv

/-- R38 after RESET: from every state, in every configuration and at every time, RESET answers a state that
meets the invariants. -/
def Obligations.ResetEstablishesTheInvariant : Prop :=
  ∀ (s : State) (now : Time), ∃ t, exec (.reset now) s = .next t ∧ t.Inv

/-- R38: every step keeps the invariants, from every state that meets them. -/
def Obligations.EveryStepKeepsTheInvariant : Prop :=
  ∀ s t : State, s.Inv → step s = .next t → t.Inv

/-- R38, R69: every state that any sequence of steps and triggers reaches from a state that meets the
invariants meets them, in every configuration. -/
def Obligations.RunsStayInTheInvariant : Prop :=
  ∀ s t : State, s.Inv → Reaches s t → t.Inv

/-- R73, R149: no step changes the configuration, and only RESET writes `SEQ`, with `HOP_GEN(UID)`. -/
def Obligations.ConfigurationAndSequenceAreConstant : Prop :=
  ∀ s t : State, step s = .next t →
    t.cfg = s.cfg ∧ (t.out.ack = some .rst → t.seq = s.cfg.sequence) ∧
      (t.out.ack ≠ some .rst → t.seq = s.seq)

/-- R186, R198: every step moves `LINK_STATE` along the transition table or not at all. A step that
acknowledges nothing is an idle one (log entry 10). -/
def Obligations.LinkStateMovesAlongTheTable : Prop :=
  ∀ s t : State, step s = .next t →
    match t.out.ack with
    | none => t.linkState = s.linkState
    | some k => mayMove k s.linkState t.linkState = true

/-- R43: what each event never writes. The last clause is of the idle step: it holds every register (R256),
and that it clears the outputs is the model's choice (log entry 10). -/
def Obligations.EventsWriteOnlyWhatTheTableAllows : Prop :=
  ∀ s t : State, step s = .next t →
    (t.out.ack = some .tick → t.ch = s.ch ∧ t.sw = s.sw ∧ t.syncProfile = s.syncProfile ∧
      t.linkState = s.linkState ∧ t.profileIdx = s.profileIdx ∧ t.phaseF = s.phaseF ∧
      t.rssiF = s.rssiF ∧ t.snrF = s.snrF ∧ t.errCount = s.errCount ∧
      t.lastValidTs = s.lastValidTs ∧ t.scanAnchorTs = s.scanAnchorTs ∧ t.seq = s.seq) ∧
    (t.out.ack = some .rx → t.profileIdx = s.profileIdx ∧ t.freqCorr = s.freqCorr ∧
      t.freqF = s.freqF ∧ t.lqw = s.lqw ∧ t.lqCursor = s.lqCursor ∧ t.lastTickTs = s.lastTickTs ∧
      t.seq = s.seq) ∧
    (t.out.ack = some .poll → t.ch = s.ch ∧ t.sw = s.sw ∧ t.syncProfile = s.syncProfile ∧
      t.nonce = s.nonce ∧ t.errCount = s.errCount ∧ t.lastTickTs = s.lastTickTs ∧
      t.lastValidTs = s.lastValidTs ∧ t.seq = s.seq) ∧
    (t.out.ack = none → t = { s with req := t.req, env := t.env, out := .quiet })

/-- R52: the code of every command. -/
def Obligations.CommandCodesAsListed : Prop :=
  (∀ m f w, (Cmd.radioConfigure m f w).code = 0) ∧ (∀ f, (Cmd.radioSetFrequency f).code = 1) ∧
  Cmd.radioBeginReceive.code = 2 ∧ Cmd.radioStopReceive.code = 3 ∧
  (∀ b, (Cmd.radioTransmit b).code = 4) ∧ (∀ v, (Cmd.radioSetFrequencyCorrection v).code = 5) ∧
  (∀ u, (Cmd.timerSetInterval u).code = 6) ∧ (∀ d, (Cmd.timerPhaseShift d).code = 7) ∧
  Cmd.signalLinkUp.code = 8 ∧ Cmd.signalLinkDown.code = 9 ∧
  Cmd.serialRcValid.code = 10 ∧ Cmd.serialSwValid.code = 11

/-- R226, R223: the command lists of each event, by code (R52), as a closed list; `radio.stopReceive` is in
none. FRAME_RX's list is the one of its frame's type, and empty exactly for a rejected frame. That an idle
step shows no command is the model's choice (log entry 10). -/
def Obligations.CommandListsPerEvent : Prop :=
  ∀ s t : State, step s = .next t →
    Cmd.radioStopReceive ∉ t.out.cmds ∧
    match t.out.ack with
    | none => t.out.cmds = []
    | some .rst => t.out.cmds.map Cmd.code = [0, 5, 6, 2]
    | some .tick => t.out.cmds.map Cmd.code ∈ ([[], [5, 1, 2], [4], [5, 1, 2, 4]] : List (List (BitVec 4)))
    | some .rx =>
      t.out.cmds.map Cmd.code ∈ ([[], [7], [10, 7], [11, 7], [8, 7]] : List (List (BitVec 4))) ∧
        (t.out.cmds = [] ↔ ∃ k, t.out.rx = some (.error k)) ∧
        (match t.out.rx with
        | none => False
        | some (.error _) => t.out.cmds = []
        | some (.ok (.rcData _ _ _ _)) => t.out.cmds.map Cmd.code = [10, 7]
        | some (.ok (.switchData _ _ _ _ _ _)) => t.out.cmds.map Cmd.code = [11, 7]
        | some (.ok (.sync _ _ _)) =>
          t.out.cmds.map Cmd.code =
            if s.linkState = .tentative ∧ t.linkState = .connected then [8, 7] else [7]
        | some (.ok (.telemetry _ _ _ _ _ _)) => t.out.cmds.map Cmd.code = [7])
    | some .poll =>
      t.out.cmds.map Cmd.code ∈
        ([[], [5, 1, 2, 9], [0, 6, 2], [5, 1, 2, 9, 0, 6, 2]] : List (List (BitVec 4)))

/-- R193, R194, D40: link up is signalled exactly on Tentative to Connected, link down exactly when a POLL
takes a live link to Disconnected; RESET signals neither, and an idle step shows no command (log entry 10). -/
def Obligations.LinkSignalsMarkTheTransitions : Prop :=
  ∀ s t : State, step s = .next t →
    (Cmd.signalLinkUp ∈ t.out.cmds ↔ s.linkState = .tentative ∧ t.linkState = .connected) ∧
    (Cmd.signalLinkDown ∈ t.out.cmds ↔
      t.out.ack = some .poll ∧ s.linkState ≠ .disconnected ∧ t.linkState = .disconnected)

/-! ## Filters, correction, link quality -/

/-- R156: the filter's value is exact, in 32 bits, and lies between the old value and the sample. -/
def Obligations.FilterStaysBetweenValueAndSample : Prop :=
  ∀ (v : BitVec 32) (x : Int) (w : Nat), Fits32 x → 1 ≤ w →
    (filter v x w).toInt = v.toInt + (x - v.toInt).tdiv w ∧
    min v.toInt x ≤ (filter v x w).toInt ∧ (filter v x w).toInt ≤ max v.toInt x

/-- R157: fed a constant sample, the error keeps its sign, never grows, shrinks by at least 1 while it is at
least `W`, is within `W - 1` after at most `|d_0| - W + 1` updates, and then stays. -/
def Obligations.FilterConverges : Prop :=
  ∀ (v : BitVec 32) (e : Int) (w k : Nat), Fits32 e → 1 ≤ w →
    (0 ≤ filterError v e w 0 → 0 ≤ filterError v e w k) ∧
    (filterError v e w 0 ≤ 0 → filterError v e w k ≤ 0) ∧
    |filterError v e w (k + 1)| ≤ |filterError v e w k| ∧
    ((w : Int) ≤ |filterError v e w k| → |filterError v e w (k + 1)| + 1 ≤ |filterError v e w k|) ∧
    (|filterError v e w 0| - w + 1 ≤ k → |filterError v e w k| ≤ w - 1) ∧
    (|filterError v e w k| ≤ w - 1 → filterError v e w (k + 1) = filterError v e w k)

/-- R162, R163: the correction moves by one quantum in the direction of the filtered error, over the integers
and then clamped; it never leaves the clamp, and a zero filtered error leaves it. -/
def Obligations.CorrectionStepSaturates : Prop :=
  ∀ (cfg : Config) (c f : BitVec 32),
    cfg.freqMin.toInt ≤ c.toInt → c.toInt ≤ cfg.freqMax.toInt →
    (0 < f.toInt →
      (stepCorrection cfg c f).toInt = min (c.toInt + cfg.freqQ.toInt) cfg.freqMax.toInt) ∧
    (f.toInt < 0 →
      (stepCorrection cfg c f).toInt = max (c.toInt - cfg.freqQ.toInt) cfg.freqMin.toInt) ∧
    (f.toInt = 0 → stepCorrection cfg c f = c) ∧
    cfg.freqMin.toInt ≤ (stepCorrection cfg c f).toInt ∧
    (stepCorrection cfg c f).toInt ≤ cfg.freqMax.toInt

/-- R159, R219: the phase sample lies within half an interval, the filter takes it exactly, and the command
carries the filtered value divided by `PHASE_DIV`, toward zero. -/
def Obligations.PhaseCorrectionIsExact : Prop :=
  ∀ (s : State) (tRx : Time), s.Inv →
    -((s.profile.frameIntervalUs.toNat / 2 : Nat) : Int) ≤ phaseSample s tRx ∧
    phaseSample s tRx <
      (s.profile.frameIntervalUs.toNat : Int) - ((s.profile.frameIntervalUs.toNat / 2 : Nat) : Int) ∧
    (s.phaseCorrect tRx).phaseF.toInt =
      s.phaseF.toInt + (phaseSample s tRx - s.phaseF.toInt).tdiv s.cfg.wPhase ∧
    ∃ d : BitVec 32, d.toInt = (s.phaseCorrect tRx).phaseF.toInt.tdiv s.cfg.phaseDiv ∧
      s.phaseCorrect tRx =
        { s with
          phaseF := (s.phaseCorrect tRx).phaseF
          out := { s.out with cmds := s.out.cmds ++ [.timerPhaseShift d] } }

/-- R166: the statistics filters take the sign-extended samples exactly. -/
def Obligations.StatisticsAreExact : Prop :=
  ∀ (s : State) (rssi : BitVec 16) (snr : BitVec 8),
    (s.statsUpdate rssi snr).rssiF.toInt =
      s.rssiF.toInt + (rssi.toInt - s.rssiF.toInt).tdiv s.cfg.wRssi ∧
    (s.statsUpdate rssi snr).snrF.toInt =
      s.snrF.toInt + (snr.toInt - s.snrF.toInt).tdiv s.cfg.wSnr ∧
    s.statsUpdate rssi snr =
      { s with rssiF := (s.statsUpdate rssi snr).rssiF, snrF := (s.statsUpdate rssi snr).snrF }

/-- R181, R176, R177: a TICK replaces the oldest entry by the slot's outcome, so the quality moves by their
difference; it is a count of 100 entries, 100 exactly when all are hits, 0 after `LQ_Reset`. -/
def Obligations.LinkQualityCountsTheWindow : Prop :=
  ∀ (s : State) (now : Time) (fe : BitVec 32),
    (∃ t, exec (.tick now fe) s = .next t ∧
      t.lq + (s.lqw[s.lqCursor]).toNat = s.lq + s.frameSeen.toNat) ∧
    s.lq ≤ 100 ∧ (s.lq = 100 ↔ s.lqw = Vector.replicate 100 true) ∧ s.lqReset.lq = 0

/-! ## The hop sequence -/

/-- R144 (b), R142: the generated sequence is a permutation of the channel numbers, for every identity and
every channel count. -/
def Obligations.GeneratedSequenceIsAPermutation : Prop :=
  ∀ (u : Uid) (n : Nat), 1 ≤ n → n ≤ 256 → IsPermOf n (hopGenerate u n)

/-- R141, R61, D20: `UID[0]` and `UID[1]` do not enter the sequence. -/
def Obligations.SequenceIgnoresTheFirstTwoIdentityBytes : Prop :=
  ∀ (u : Uid) (x y : Byte) (n : Nat), hopGenerate { u with u0 := x, u1 := y } n = hopGenerate u n

/-- R142: the worked example, REFCFG. -/
def Obligations.ReferenceSequenceAsWorked : Prop :=
  refcfg.sequence = [0, 3, 5, 4, 6, 7, 1, 2]

/-- R144 (c), R140: over one cycle of the index every channel's frequency appears exactly once. -/
def Obligations.EveryChannelOncePerCycle : Prop :=
  ∀ s : State, s.Inv →
    (∀ i j : Nat, i < s.cfg.hopN → j < s.cfg.hopN → s.hopFrequency i = s.hopFrequency j → i = j) ∧
    (∀ f ∈ s.cfg.chanTable, ∃ i, i < s.cfg.hopN ∧ s.hopFrequency i = f)

/-- R146: `k` advances move the index `k` places modulo `HOP_N`, and change nothing else. -/
def Obligations.HopAdvancesModuloTheLength : Prop :=
  ∀ (s : State) (k : Nat), s.hopIdx.toNat < s.cfg.hopN →
    (advances s k).hopIdx.toNat = (s.hopIdx.toNat + k) % s.cfg.hopN ∧
    advances s k = { s with hopIdx := (advances s k).hopIdx }

/-! ## The status port -/

/-- R42, R53: what the status port reads: `LINK_STATE` as 0, 1 or 2 for Disconnected, Tentative, Connected,
unsigned registers zero-extended, signed ones sign-extended, the computed items, and 0 from S27 on; and every
level output equals the status value of its register. -/
def Obligations.StatusPortReads : Prop :=
  ∀ s : State,
    (s.readStatus 0).toNat = (match s.linkState with
      | .disconnected => 0
      | .tentative => 1
      | .connected => 2) ∧
    (s.readStatus 1).toNat = s.profileIdx.toNat ∧
    (s.readStatus 2).toNat = s.hopIdx.toNat ∧ (s.readStatus 3).toNat = s.nonce.toNat ∧
    (s.readStatus 4).toInt = s.freqCorr.toInt ∧ (s.readStatus 5).toInt = s.phaseF.toInt ∧
    (s.readStatus 6).toInt = s.freqF.toInt ∧ (s.readStatus 7).toInt = s.rssiF.toInt ∧
    (s.readStatus 8).toInt = s.snrF.toInt ∧ (s.readStatus 9).toNat = s.lqw.toList.count true ∧
    (s.readStatus 10).toNat = s.lqCursor.val ∧ (s.readStatus 11).toNat = s.frameSeen.toNat ∧
    (s.readStatus 12).toNat = s.errCount.toNat ∧ s.readStatus 13 = s.lastTickTs ∧
    s.readStatus 14 = s.lastValidTs ∧ s.readStatus 15 = s.scanAnchorTs ∧
    (s.readStatus 16).toNat = s.syncProfile.toNat ∧
    [s.readStatus 17, s.readStatus 18, s.readStatus 19, s.readStatus 20].map BitVec.toNat =
      [s.ch.ch0.toNat, s.ch.ch1.toNat, s.ch.ch2.toNat, s.ch.ch3.toNat] ∧
    [s.readStatus 21, s.readStatus 22, s.readStatus 23, s.readStatus 24].map BitVec.toNat =
      [s.sw.sw0.toNat, s.sw.sw1.toNat, s.sw.sw2.toNat, s.sw.sw3.toNat] ∧
    (s.readStatus 25).toNat = (chanAt s.cfg (s.seq.getD s.hopIdx.toNat 0)).toNat ∧
    (s.readStatus 26).toNat = s.cfg.uid.u5.toNat % 64 ∧
    (∀ n, 27 ≤ n → s.readStatus n = 0) ∧
    s.levels.linkState.setWidth 64 = s.readStatus 0 ∧ s.levels.profileId.setWidth 64 = s.readStatus 1 ∧
    s.levels.rssiF.signExtend 64 = s.readStatus 7 ∧ s.levels.snrF.signExtend 64 = s.readStatus 8 ∧
    s.levels.lq.setWidth 64 = s.readStatus 9 ∧
    [s.levels.ch.ch0, s.levels.ch.ch1, s.levels.ch.ch2, s.levels.ch.ch3].map (BitVec.setWidth 64) =
      [s.readStatus 17, s.readStatus 18, s.readStatus 19, s.readStatus 20] ∧
    [s.levels.sw.sw0, s.levels.sw.sw1, s.levels.sw.sw2, s.levels.sw.sw3].map (BitVec.setWidth 64) =
      [s.readStatus 21, s.readStatus 22, s.readStatus 23, s.readStatus 24]
end

