-- ==== Sys2Proof/Laws/State.lean ====
section
/-! SUPPORT. One lemma per field per shared operation, so that no later proof unfolds a record update. -/

namespace Sys2Proof.Machine

section Fields

variable (s : State)

/-! ### `emit` -/

@[simp] theorem emit_cfg (c : Cmd) : (s.emit c).cfg = s.cfg := rfl
@[simp] theorem emit_ch (c : Cmd) : (s.emit c).ch = s.ch := rfl
@[simp] theorem emit_sw (c : Cmd) : (s.emit c).sw = s.sw := rfl
@[simp] theorem emit_syncProfile (c : Cmd) : (s.emit c).syncProfile = s.syncProfile := rfl
@[simp] theorem emit_nonce (c : Cmd) : (s.emit c).nonce = s.nonce := rfl
@[simp] theorem emit_hopIdx (c : Cmd) : (s.emit c).hopIdx = s.hopIdx := rfl
@[simp] theorem emit_linkState (c : Cmd) : (s.emit c).linkState = s.linkState := rfl
@[simp] theorem emit_profileIdx (c : Cmd) : (s.emit c).profileIdx = s.profileIdx := rfl
@[simp] theorem emit_freqCorr (c : Cmd) : (s.emit c).freqCorr = s.freqCorr := rfl
@[simp] theorem emit_phaseF (c : Cmd) : (s.emit c).phaseF = s.phaseF := rfl
@[simp] theorem emit_freqF (c : Cmd) : (s.emit c).freqF = s.freqF := rfl
@[simp] theorem emit_rssiF (c : Cmd) : (s.emit c).rssiF = s.rssiF := rfl
@[simp] theorem emit_snrF (c : Cmd) : (s.emit c).snrF = s.snrF := rfl
@[simp] theorem emit_lqCursor (c : Cmd) : (s.emit c).lqCursor = s.lqCursor := rfl
@[simp] theorem emit_frameSeen (c : Cmd) : (s.emit c).frameSeen = s.frameSeen := rfl
@[simp] theorem emit_errCount (c : Cmd) : (s.emit c).errCount = s.errCount := rfl
@[simp] theorem emit_lastTickTs (c : Cmd) : (s.emit c).lastTickTs = s.lastTickTs := rfl
@[simp] theorem emit_lastValidTs (c : Cmd) : (s.emit c).lastValidTs = s.lastValidTs := rfl
@[simp] theorem emit_scanAnchorTs (c : Cmd) : (s.emit c).scanAnchorTs = s.scanAnchorTs := rfl
@[simp] theorem emit_seq (c : Cmd) : (s.emit c).seq = s.seq := rfl
@[simp] theorem emit_lqw (c : Cmd) : (s.emit c).lqw = s.lqw := rfl
@[simp] theorem emit_req (c : Cmd) : (s.emit c).req = s.req := rfl
@[simp] theorem emit_env (c : Cmd) : (s.emit c).env = s.env := rfl
@[simp] theorem emit_out (c : Cmd) : (s.emit c).out = { s.out with cmds := s.out.cmds ++ [c] } := rfl

/-! ### `beginEvent` -/

@[simp] theorem beginEvent_cfg (k : EventKind) : (s.beginEvent k).cfg = s.cfg := rfl
@[simp] theorem beginEvent_ch (k : EventKind) : (s.beginEvent k).ch = s.ch := rfl
@[simp] theorem beginEvent_sw (k : EventKind) : (s.beginEvent k).sw = s.sw := rfl
@[simp] theorem beginEvent_syncProfile (k : EventKind) : (s.beginEvent k).syncProfile = s.syncProfile := rfl
@[simp] theorem beginEvent_nonce (k : EventKind) : (s.beginEvent k).nonce = s.nonce := rfl
@[simp] theorem beginEvent_hopIdx (k : EventKind) : (s.beginEvent k).hopIdx = s.hopIdx := rfl
@[simp] theorem beginEvent_linkState (k : EventKind) : (s.beginEvent k).linkState = s.linkState := rfl
@[simp] theorem beginEvent_profileIdx (k : EventKind) : (s.beginEvent k).profileIdx = s.profileIdx := rfl
@[simp] theorem beginEvent_freqCorr (k : EventKind) : (s.beginEvent k).freqCorr = s.freqCorr := rfl
@[simp] theorem beginEvent_phaseF (k : EventKind) : (s.beginEvent k).phaseF = s.phaseF := rfl
@[simp] theorem beginEvent_freqF (k : EventKind) : (s.beginEvent k).freqF = s.freqF := rfl
@[simp] theorem beginEvent_rssiF (k : EventKind) : (s.beginEvent k).rssiF = s.rssiF := rfl
@[simp] theorem beginEvent_snrF (k : EventKind) : (s.beginEvent k).snrF = s.snrF := rfl
@[simp] theorem beginEvent_lqCursor (k : EventKind) : (s.beginEvent k).lqCursor = s.lqCursor := rfl
@[simp] theorem beginEvent_frameSeen (k : EventKind) : (s.beginEvent k).frameSeen = s.frameSeen := rfl
@[simp] theorem beginEvent_errCount (k : EventKind) : (s.beginEvent k).errCount = s.errCount := rfl
@[simp] theorem beginEvent_lastTickTs (k : EventKind) : (s.beginEvent k).lastTickTs = s.lastTickTs := rfl
@[simp] theorem beginEvent_lastValidTs (k : EventKind) : (s.beginEvent k).lastValidTs = s.lastValidTs := rfl
@[simp] theorem beginEvent_scanAnchorTs (k : EventKind) :
    (s.beginEvent k).scanAnchorTs = s.scanAnchorTs := rfl
@[simp] theorem beginEvent_seq (k : EventKind) : (s.beginEvent k).seq = s.seq := rfl
@[simp] theorem beginEvent_lqw (k : EventKind) : (s.beginEvent k).lqw = s.lqw := rfl
@[simp] theorem beginEvent_req (k : EventKind) : (s.beginEvent k).req = s.req := rfl
@[simp] theorem beginEvent_env (k : EventKind) : (s.beginEvent k).env = s.env := rfl
@[simp] theorem beginEvent_out (k : EventKind) :
    (s.beginEvent k).out = { ack := some k, cmds := [], rx := none, enc := none } := rfl

/-! ### `present` -/

@[simp] theorem present_cfg (r : Except DecodeError ParsedFrame) : (s.present r).cfg = s.cfg := rfl
@[simp] theorem present_ch (r : Except DecodeError ParsedFrame) : (s.present r).ch = s.ch := rfl
@[simp] theorem present_sw (r : Except DecodeError ParsedFrame) : (s.present r).sw = s.sw := rfl
@[simp] theorem present_syncProfile (r : Except DecodeError ParsedFrame) :
    (s.present r).syncProfile = s.syncProfile := rfl
@[simp] theorem present_nonce (r : Except DecodeError ParsedFrame) : (s.present r).nonce = s.nonce := rfl
@[simp] theorem present_hopIdx (r : Except DecodeError ParsedFrame) : (s.present r).hopIdx = s.hopIdx := rfl
@[simp] theorem present_linkState (r : Except DecodeError ParsedFrame) :
    (s.present r).linkState = s.linkState := rfl
@[simp] theorem present_profileIdx (r : Except DecodeError ParsedFrame) :
    (s.present r).profileIdx = s.profileIdx := rfl
@[simp] theorem present_freqCorr (r : Except DecodeError ParsedFrame) :
    (s.present r).freqCorr = s.freqCorr := rfl
@[simp] theorem present_phaseF (r : Except DecodeError ParsedFrame) : (s.present r).phaseF = s.phaseF := rfl
@[simp] theorem present_freqF (r : Except DecodeError ParsedFrame) : (s.present r).freqF = s.freqF := rfl
@[simp] theorem present_rssiF (r : Except DecodeError ParsedFrame) : (s.present r).rssiF = s.rssiF := rfl
@[simp] theorem present_snrF (r : Except DecodeError ParsedFrame) : (s.present r).snrF = s.snrF := rfl
@[simp] theorem present_lqCursor (r : Except DecodeError ParsedFrame) :
    (s.present r).lqCursor = s.lqCursor := rfl
@[simp] theorem present_frameSeen (r : Except DecodeError ParsedFrame) :
    (s.present r).frameSeen = s.frameSeen := rfl
@[simp] theorem present_errCount (r : Except DecodeError ParsedFrame) :
    (s.present r).errCount = s.errCount := rfl
@[simp] theorem present_lastTickTs (r : Except DecodeError ParsedFrame) :
    (s.present r).lastTickTs = s.lastTickTs := rfl
@[simp] theorem present_lastValidTs (r : Except DecodeError ParsedFrame) :
    (s.present r).lastValidTs = s.lastValidTs := rfl
@[simp] theorem present_scanAnchorTs (r : Except DecodeError ParsedFrame) :
    (s.present r).scanAnchorTs = s.scanAnchorTs := rfl
@[simp] theorem present_seq (r : Except DecodeError ParsedFrame) : (s.present r).seq = s.seq := rfl
@[simp] theorem present_lqw (r : Except DecodeError ParsedFrame) : (s.present r).lqw = s.lqw := rfl
@[simp] theorem present_req (r : Except DecodeError ParsedFrame) : (s.present r).req = s.req := rfl
@[simp] theorem present_env (r : Except DecodeError ParsedFrame) : (s.present r).env = s.env := rfl
@[simp] theorem present_out (r : Except DecodeError ParsedFrame) :
    (s.present r).out = { s.out with rx := some r } := rfl

/-! ### `returnFrame` -/

@[simp] theorem returnFrame_cfg (b : Frame) : (s.returnFrame b).cfg = s.cfg := rfl
@[simp] theorem returnFrame_ch (b : Frame) : (s.returnFrame b).ch = s.ch := rfl
@[simp] theorem returnFrame_sw (b : Frame) : (s.returnFrame b).sw = s.sw := rfl
@[simp] theorem returnFrame_syncProfile (b : Frame) : (s.returnFrame b).syncProfile = s.syncProfile := rfl
@[simp] theorem returnFrame_nonce (b : Frame) : (s.returnFrame b).nonce = s.nonce := rfl
@[simp] theorem returnFrame_hopIdx (b : Frame) : (s.returnFrame b).hopIdx = s.hopIdx := rfl
@[simp] theorem returnFrame_linkState (b : Frame) : (s.returnFrame b).linkState = s.linkState := rfl
@[simp] theorem returnFrame_profileIdx (b : Frame) : (s.returnFrame b).profileIdx = s.profileIdx := rfl
@[simp] theorem returnFrame_freqCorr (b : Frame) : (s.returnFrame b).freqCorr = s.freqCorr := rfl
@[simp] theorem returnFrame_phaseF (b : Frame) : (s.returnFrame b).phaseF = s.phaseF := rfl
@[simp] theorem returnFrame_freqF (b : Frame) : (s.returnFrame b).freqF = s.freqF := rfl
@[simp] theorem returnFrame_rssiF (b : Frame) : (s.returnFrame b).rssiF = s.rssiF := rfl
@[simp] theorem returnFrame_snrF (b : Frame) : (s.returnFrame b).snrF = s.snrF := rfl
@[simp] theorem returnFrame_lqCursor (b : Frame) : (s.returnFrame b).lqCursor = s.lqCursor := rfl
@[simp] theorem returnFrame_frameSeen (b : Frame) : (s.returnFrame b).frameSeen = s.frameSeen := rfl
@[simp] theorem returnFrame_errCount (b : Frame) : (s.returnFrame b).errCount = s.errCount := rfl
@[simp] theorem returnFrame_lastTickTs (b : Frame) : (s.returnFrame b).lastTickTs = s.lastTickTs := rfl
@[simp] theorem returnFrame_lastValidTs (b : Frame) : (s.returnFrame b).lastValidTs = s.lastValidTs := rfl
@[simp] theorem returnFrame_scanAnchorTs (b : Frame) : (s.returnFrame b).scanAnchorTs = s.scanAnchorTs := rfl
@[simp] theorem returnFrame_seq (b : Frame) : (s.returnFrame b).seq = s.seq := rfl
@[simp] theorem returnFrame_lqw (b : Frame) : (s.returnFrame b).lqw = s.lqw := rfl
@[simp] theorem returnFrame_req (b : Frame) : (s.returnFrame b).req = s.req := rfl
@[simp] theorem returnFrame_env (b : Frame) : (s.returnFrame b).env = s.env := rfl
@[simp] theorem returnFrame_out (b : Frame) : (s.returnFrame b).out = { s.out with enc := some b } := rfl

/-! ### `raiseDecodeError` -/

@[simp] theorem raiseDecodeError_cfg (k : DecodeError) :
    (s.raiseDecodeError k).cfg = s.cfg := by simp [State.raiseDecodeError]
@[simp] theorem raiseDecodeError_ch (k : DecodeError) :
    (s.raiseDecodeError k).ch = s.ch := by simp [State.raiseDecodeError]
@[simp] theorem raiseDecodeError_sw (k : DecodeError) :
    (s.raiseDecodeError k).sw = s.sw := by simp [State.raiseDecodeError]
@[simp] theorem raiseDecodeError_syncProfile (k : DecodeError) :
    (s.raiseDecodeError k).syncProfile = s.syncProfile := by simp [State.raiseDecodeError]
@[simp] theorem raiseDecodeError_nonce (k : DecodeError) :
    (s.raiseDecodeError k).nonce = s.nonce := by simp [State.raiseDecodeError]
@[simp] theorem raiseDecodeError_hopIdx (k : DecodeError) :
    (s.raiseDecodeError k).hopIdx = s.hopIdx := by simp [State.raiseDecodeError]
@[simp] theorem raiseDecodeError_linkState (k : DecodeError) :
    (s.raiseDecodeError k).linkState = s.linkState := by simp [State.raiseDecodeError]
@[simp] theorem raiseDecodeError_profileIdx (k : DecodeError) :
    (s.raiseDecodeError k).profileIdx = s.profileIdx := by simp [State.raiseDecodeError]
@[simp] theorem raiseDecodeError_freqCorr (k : DecodeError) :
    (s.raiseDecodeError k).freqCorr = s.freqCorr := by simp [State.raiseDecodeError]
@[simp] theorem raiseDecodeError_phaseF (k : DecodeError) :
    (s.raiseDecodeError k).phaseF = s.phaseF := by simp [State.raiseDecodeError]
@[simp] theorem raiseDecodeError_freqF (k : DecodeError) :
    (s.raiseDecodeError k).freqF = s.freqF := by simp [State.raiseDecodeError]
@[simp] theorem raiseDecodeError_rssiF (k : DecodeError) :
    (s.raiseDecodeError k).rssiF = s.rssiF := by simp [State.raiseDecodeError]
@[simp] theorem raiseDecodeError_snrF (k : DecodeError) :
    (s.raiseDecodeError k).snrF = s.snrF := by simp [State.raiseDecodeError]
@[simp] theorem raiseDecodeError_lqCursor (k : DecodeError) :
    (s.raiseDecodeError k).lqCursor = s.lqCursor := by simp [State.raiseDecodeError]
@[simp] theorem raiseDecodeError_frameSeen (k : DecodeError) :
    (s.raiseDecodeError k).frameSeen = s.frameSeen := by simp [State.raiseDecodeError]
@[simp] theorem raiseDecodeError_errCount (k : DecodeError) :
    (s.raiseDecodeError k).errCount = s.errCount + 1 := by simp [State.raiseDecodeError]
@[simp] theorem raiseDecodeError_lastTickTs (k : DecodeError) :
    (s.raiseDecodeError k).lastTickTs = s.lastTickTs := by simp [State.raiseDecodeError]
@[simp] theorem raiseDecodeError_lastValidTs (k : DecodeError) :
    (s.raiseDecodeError k).lastValidTs = s.lastValidTs := by simp [State.raiseDecodeError]
@[simp] theorem raiseDecodeError_scanAnchorTs (k : DecodeError) :
    (s.raiseDecodeError k).scanAnchorTs = s.scanAnchorTs := by simp [State.raiseDecodeError]
@[simp] theorem raiseDecodeError_seq (k : DecodeError) :
    (s.raiseDecodeError k).seq = s.seq := by simp [State.raiseDecodeError]
@[simp] theorem raiseDecodeError_lqw (k : DecodeError) :
    (s.raiseDecodeError k).lqw = s.lqw := by simp [State.raiseDecodeError]
@[simp] theorem raiseDecodeError_req (k : DecodeError) :
    (s.raiseDecodeError k).req = s.req := by simp [State.raiseDecodeError]
@[simp] theorem raiseDecodeError_env (k : DecodeError) :
    (s.raiseDecodeError k).env = s.env := by simp [State.raiseDecodeError]
@[simp] theorem raiseDecodeError_out (k : DecodeError) :
    (s.raiseDecodeError k).out = { s.out with rx := some (.error k) } := by simp [State.raiseDecodeError]

/-! ### `hopAdvance` -/

@[simp] theorem hopAdvance_cfg : s.hopAdvance.cfg = s.cfg := rfl
@[simp] theorem hopAdvance_ch : s.hopAdvance.ch = s.ch := rfl
@[simp] theorem hopAdvance_sw : s.hopAdvance.sw = s.sw := rfl
@[simp] theorem hopAdvance_syncProfile : s.hopAdvance.syncProfile = s.syncProfile := rfl
@[simp] theorem hopAdvance_nonce : s.hopAdvance.nonce = s.nonce := rfl
@[simp] theorem hopAdvance_hopIdx :
    s.hopAdvance.hopIdx = BitVec.ofNat 8 ((s.hopIdx.toNat + 1) % s.cfg.hopN) := rfl
@[simp] theorem hopAdvance_linkState : s.hopAdvance.linkState = s.linkState := rfl
@[simp] theorem hopAdvance_profileIdx : s.hopAdvance.profileIdx = s.profileIdx := rfl
@[simp] theorem hopAdvance_freqCorr : s.hopAdvance.freqCorr = s.freqCorr := rfl
@[simp] theorem hopAdvance_phaseF : s.hopAdvance.phaseF = s.phaseF := rfl
@[simp] theorem hopAdvance_freqF : s.hopAdvance.freqF = s.freqF := rfl
@[simp] theorem hopAdvance_rssiF : s.hopAdvance.rssiF = s.rssiF := rfl
@[simp] theorem hopAdvance_snrF : s.hopAdvance.snrF = s.snrF := rfl
@[simp] theorem hopAdvance_lqCursor : s.hopAdvance.lqCursor = s.lqCursor := rfl
@[simp] theorem hopAdvance_frameSeen : s.hopAdvance.frameSeen = s.frameSeen := rfl
@[simp] theorem hopAdvance_errCount : s.hopAdvance.errCount = s.errCount := rfl
@[simp] theorem hopAdvance_lastTickTs : s.hopAdvance.lastTickTs = s.lastTickTs := rfl
@[simp] theorem hopAdvance_lastValidTs : s.hopAdvance.lastValidTs = s.lastValidTs := rfl
@[simp] theorem hopAdvance_scanAnchorTs : s.hopAdvance.scanAnchorTs = s.scanAnchorTs := rfl
@[simp] theorem hopAdvance_seq : s.hopAdvance.seq = s.seq := rfl
@[simp] theorem hopAdvance_lqw : s.hopAdvance.lqw = s.lqw := rfl
@[simp] theorem hopAdvance_req : s.hopAdvance.req = s.req := rfl
@[simp] theorem hopAdvance_env : s.hopAdvance.env = s.env := rfl
@[simp] theorem hopAdvance_out : s.hopAdvance.out = s.out := rfl

/-! ### `hopSetIndex` -/

@[simp] theorem hopSetIndex_cfg (i : Byte) : (s.hopSetIndex i).cfg = s.cfg := rfl
@[simp] theorem hopSetIndex_ch (i : Byte) : (s.hopSetIndex i).ch = s.ch := rfl
@[simp] theorem hopSetIndex_sw (i : Byte) : (s.hopSetIndex i).sw = s.sw := rfl
@[simp] theorem hopSetIndex_syncProfile (i : Byte) : (s.hopSetIndex i).syncProfile = s.syncProfile := rfl
@[simp] theorem hopSetIndex_nonce (i : Byte) : (s.hopSetIndex i).nonce = s.nonce := rfl
@[simp] theorem hopSetIndex_hopIdx (i : Byte) :
    (s.hopSetIndex i).hopIdx = BitVec.ofNat 8 (i.toNat % s.cfg.hopN) := rfl
@[simp] theorem hopSetIndex_linkState (i : Byte) : (s.hopSetIndex i).linkState = s.linkState := rfl
@[simp] theorem hopSetIndex_profileIdx (i : Byte) : (s.hopSetIndex i).profileIdx = s.profileIdx := rfl
@[simp] theorem hopSetIndex_freqCorr (i : Byte) : (s.hopSetIndex i).freqCorr = s.freqCorr := rfl
@[simp] theorem hopSetIndex_phaseF (i : Byte) : (s.hopSetIndex i).phaseF = s.phaseF := rfl
@[simp] theorem hopSetIndex_freqF (i : Byte) : (s.hopSetIndex i).freqF = s.freqF := rfl
@[simp] theorem hopSetIndex_rssiF (i : Byte) : (s.hopSetIndex i).rssiF = s.rssiF := rfl
@[simp] theorem hopSetIndex_snrF (i : Byte) : (s.hopSetIndex i).snrF = s.snrF := rfl
@[simp] theorem hopSetIndex_lqCursor (i : Byte) : (s.hopSetIndex i).lqCursor = s.lqCursor := rfl
@[simp] theorem hopSetIndex_frameSeen (i : Byte) : (s.hopSetIndex i).frameSeen = s.frameSeen := rfl
@[simp] theorem hopSetIndex_errCount (i : Byte) : (s.hopSetIndex i).errCount = s.errCount := rfl
@[simp] theorem hopSetIndex_lastTickTs (i : Byte) : (s.hopSetIndex i).lastTickTs = s.lastTickTs := rfl
@[simp] theorem hopSetIndex_lastValidTs (i : Byte) : (s.hopSetIndex i).lastValidTs = s.lastValidTs := rfl
@[simp] theorem hopSetIndex_scanAnchorTs (i : Byte) : (s.hopSetIndex i).scanAnchorTs = s.scanAnchorTs := rfl
@[simp] theorem hopSetIndex_seq (i : Byte) : (s.hopSetIndex i).seq = s.seq := rfl
@[simp] theorem hopSetIndex_lqw (i : Byte) : (s.hopSetIndex i).lqw = s.lqw := rfl
@[simp] theorem hopSetIndex_req (i : Byte) : (s.hopSetIndex i).req = s.req := rfl
@[simp] theorem hopSetIndex_env (i : Byte) : (s.hopSetIndex i).env = s.env := rfl
@[simp] theorem hopSetIndex_out (i : Byte) : (s.hopSetIndex i).out = s.out := rfl

/-! ### `hopReturnToInitial` -/

@[simp] theorem hopReturnToInitial_cfg :
    s.hopReturnToInitial.cfg = s.cfg := by simp [State.hopReturnToInitial]
@[simp] theorem hopReturnToInitial_ch : s.hopReturnToInitial.ch = s.ch := by simp [State.hopReturnToInitial]
@[simp] theorem hopReturnToInitial_sw : s.hopReturnToInitial.sw = s.sw := by simp [State.hopReturnToInitial]
@[simp] theorem hopReturnToInitial_syncProfile :
    s.hopReturnToInitial.syncProfile = s.syncProfile := by simp [State.hopReturnToInitial]
@[simp] theorem hopReturnToInitial_nonce :
    s.hopReturnToInitial.nonce = s.nonce := by simp [State.hopReturnToInitial]
@[simp] theorem hopReturnToInitial_hopIdx :
    s.hopReturnToInitial.hopIdx = 0 := by simp [State.hopReturnToInitial]
@[simp] theorem hopReturnToInitial_linkState :
    s.hopReturnToInitial.linkState = s.linkState := by simp [State.hopReturnToInitial]
@[simp] theorem hopReturnToInitial_profileIdx :
    s.hopReturnToInitial.profileIdx = s.profileIdx := by simp [State.hopReturnToInitial]
@[simp] theorem hopReturnToInitial_freqCorr :
    s.hopReturnToInitial.freqCorr = s.freqCorr := by simp [State.hopReturnToInitial]
@[simp] theorem hopReturnToInitial_phaseF :
    s.hopReturnToInitial.phaseF = s.phaseF := by simp [State.hopReturnToInitial]
@[simp] theorem hopReturnToInitial_freqF :
    s.hopReturnToInitial.freqF = s.freqF := by simp [State.hopReturnToInitial]
@[simp] theorem hopReturnToInitial_rssiF :
    s.hopReturnToInitial.rssiF = s.rssiF := by simp [State.hopReturnToInitial]
@[simp] theorem hopReturnToInitial_snrF :
    s.hopReturnToInitial.snrF = s.snrF := by simp [State.hopReturnToInitial]
@[simp] theorem hopReturnToInitial_lqCursor :
    s.hopReturnToInitial.lqCursor = s.lqCursor := by simp [State.hopReturnToInitial]
@[simp] theorem hopReturnToInitial_frameSeen :
    s.hopReturnToInitial.frameSeen = s.frameSeen := by simp [State.hopReturnToInitial]
@[simp] theorem hopReturnToInitial_errCount :
    s.hopReturnToInitial.errCount = s.errCount := by simp [State.hopReturnToInitial]
@[simp] theorem hopReturnToInitial_lastTickTs :
    s.hopReturnToInitial.lastTickTs = s.lastTickTs := by simp [State.hopReturnToInitial]
@[simp] theorem hopReturnToInitial_lastValidTs :
    s.hopReturnToInitial.lastValidTs = s.lastValidTs := by simp [State.hopReturnToInitial]
@[simp] theorem hopReturnToInitial_scanAnchorTs :
    s.hopReturnToInitial.scanAnchorTs = s.scanAnchorTs := by simp [State.hopReturnToInitial]
@[simp] theorem hopReturnToInitial_seq :
    s.hopReturnToInitial.seq = s.seq := by simp [State.hopReturnToInitial]
@[simp] theorem hopReturnToInitial_lqw :
    s.hopReturnToInitial.lqw = s.lqw := by simp [State.hopReturnToInitial]
@[simp] theorem hopReturnToInitial_req :
    s.hopReturnToInitial.req = s.req := by simp [State.hopReturnToInitial]
@[simp] theorem hopReturnToInitial_env :
    s.hopReturnToInitial.env = s.env := by simp [State.hopReturnToInitial]
@[simp] theorem hopReturnToInitial_out :
    s.hopReturnToInitial.out = { s.out with cmds := s.out.cmds ++ [.radioSetFrequency (s.hopFrequency 0)] } := by simp [State.hopReturnToInitial]

/-! ### `filterResetAll` -/

@[simp] theorem filterResetAll_cfg : s.filterResetAll.cfg = s.cfg := rfl
@[simp] theorem filterResetAll_ch : s.filterResetAll.ch = s.ch := rfl
@[simp] theorem filterResetAll_sw : s.filterResetAll.sw = s.sw := rfl
@[simp] theorem filterResetAll_syncProfile : s.filterResetAll.syncProfile = s.syncProfile := rfl
@[simp] theorem filterResetAll_nonce : s.filterResetAll.nonce = s.nonce := rfl
@[simp] theorem filterResetAll_hopIdx : s.filterResetAll.hopIdx = s.hopIdx := rfl
@[simp] theorem filterResetAll_linkState : s.filterResetAll.linkState = s.linkState := rfl
@[simp] theorem filterResetAll_profileIdx : s.filterResetAll.profileIdx = s.profileIdx := rfl
@[simp] theorem filterResetAll_freqCorr : s.filterResetAll.freqCorr = s.freqCorr := rfl
@[simp] theorem filterResetAll_phaseF : s.filterResetAll.phaseF = 0 := rfl
@[simp] theorem filterResetAll_freqF : s.filterResetAll.freqF = 0 := rfl
@[simp] theorem filterResetAll_rssiF : s.filterResetAll.rssiF = 0 := rfl
@[simp] theorem filterResetAll_snrF : s.filterResetAll.snrF = 0 := rfl
@[simp] theorem filterResetAll_lqCursor : s.filterResetAll.lqCursor = s.lqCursor := rfl
@[simp] theorem filterResetAll_frameSeen : s.filterResetAll.frameSeen = s.frameSeen := rfl
@[simp] theorem filterResetAll_errCount : s.filterResetAll.errCount = s.errCount := rfl
@[simp] theorem filterResetAll_lastTickTs : s.filterResetAll.lastTickTs = s.lastTickTs := rfl
@[simp] theorem filterResetAll_lastValidTs : s.filterResetAll.lastValidTs = s.lastValidTs := rfl
@[simp] theorem filterResetAll_scanAnchorTs : s.filterResetAll.scanAnchorTs = s.scanAnchorTs := rfl
@[simp] theorem filterResetAll_seq : s.filterResetAll.seq = s.seq := rfl
@[simp] theorem filterResetAll_lqw : s.filterResetAll.lqw = s.lqw := rfl
@[simp] theorem filterResetAll_req : s.filterResetAll.req = s.req := rfl
@[simp] theorem filterResetAll_env : s.filterResetAll.env = s.env := rfl
@[simp] theorem filterResetAll_out : s.filterResetAll.out = s.out := rfl

/-! ### `phaseCorrect` -/

@[simp] theorem phaseCorrect_cfg (tRx : Time) :
    (s.phaseCorrect tRx).cfg = s.cfg := by simp [State.phaseCorrect]
@[simp] theorem phaseCorrect_ch (tRx : Time) : (s.phaseCorrect tRx).ch = s.ch := by simp [State.phaseCorrect]
@[simp] theorem phaseCorrect_sw (tRx : Time) : (s.phaseCorrect tRx).sw = s.sw := by simp [State.phaseCorrect]
@[simp] theorem phaseCorrect_syncProfile (tRx : Time) :
    (s.phaseCorrect tRx).syncProfile = s.syncProfile := by simp [State.phaseCorrect]
@[simp] theorem phaseCorrect_nonce (tRx : Time) :
    (s.phaseCorrect tRx).nonce = s.nonce := by simp [State.phaseCorrect]
@[simp] theorem phaseCorrect_hopIdx (tRx : Time) :
    (s.phaseCorrect tRx).hopIdx = s.hopIdx := by simp [State.phaseCorrect]
@[simp] theorem phaseCorrect_linkState (tRx : Time) :
    (s.phaseCorrect tRx).linkState = s.linkState := by simp [State.phaseCorrect]
@[simp] theorem phaseCorrect_profileIdx (tRx : Time) :
    (s.phaseCorrect tRx).profileIdx = s.profileIdx := by simp [State.phaseCorrect]
@[simp] theorem phaseCorrect_freqCorr (tRx : Time) :
    (s.phaseCorrect tRx).freqCorr = s.freqCorr := by simp [State.phaseCorrect]
@[simp] theorem phaseCorrect_phaseF (tRx : Time) :
    (s.phaseCorrect tRx).phaseF = filter s.phaseF (s.phaseError tRx) s.cfg.wPhase := by simp [State.phaseCorrect]
@[simp] theorem phaseCorrect_freqF (tRx : Time) :
    (s.phaseCorrect tRx).freqF = s.freqF := by simp [State.phaseCorrect]
@[simp] theorem phaseCorrect_rssiF (tRx : Time) :
    (s.phaseCorrect tRx).rssiF = s.rssiF := by simp [State.phaseCorrect]
@[simp] theorem phaseCorrect_snrF (tRx : Time) :
    (s.phaseCorrect tRx).snrF = s.snrF := by simp [State.phaseCorrect]
@[simp] theorem phaseCorrect_lqCursor (tRx : Time) :
    (s.phaseCorrect tRx).lqCursor = s.lqCursor := by simp [State.phaseCorrect]
@[simp] theorem phaseCorrect_frameSeen (tRx : Time) :
    (s.phaseCorrect tRx).frameSeen = s.frameSeen := by simp [State.phaseCorrect]
@[simp] theorem phaseCorrect_errCount (tRx : Time) :
    (s.phaseCorrect tRx).errCount = s.errCount := by simp [State.phaseCorrect]
@[simp] theorem phaseCorrect_lastTickTs (tRx : Time) :
    (s.phaseCorrect tRx).lastTickTs = s.lastTickTs := by simp [State.phaseCorrect]
@[simp] theorem phaseCorrect_lastValidTs (tRx : Time) :
    (s.phaseCorrect tRx).lastValidTs = s.lastValidTs := by simp [State.phaseCorrect]
@[simp] theorem phaseCorrect_scanAnchorTs (tRx : Time) :
    (s.phaseCorrect tRx).scanAnchorTs = s.scanAnchorTs := by simp [State.phaseCorrect]
@[simp] theorem phaseCorrect_seq (tRx : Time) :
    (s.phaseCorrect tRx).seq = s.seq := by simp [State.phaseCorrect]
@[simp] theorem phaseCorrect_lqw (tRx : Time) :
    (s.phaseCorrect tRx).lqw = s.lqw := by simp [State.phaseCorrect]
@[simp] theorem phaseCorrect_req (tRx : Time) :
    (s.phaseCorrect tRx).req = s.req := by simp [State.phaseCorrect]
@[simp] theorem phaseCorrect_env (tRx : Time) :
    (s.phaseCorrect tRx).env = s.env := by simp [State.phaseCorrect]
@[simp] theorem phaseCorrect_out (tRx : Time) :
    (s.phaseCorrect tRx).out =
      { s.out with cmds := s.out.cmds ++ [.timerPhaseShift (BitVec.ofInt 32
        (tdiv (filter s.phaseF (s.phaseError tRx) s.cfg.wPhase).toInt s.cfg.phaseDiv))] } := by simp [State.phaseCorrect]

/-! ### `freqCorrectStep` -/

@[simp] theorem freqCorrectStep_cfg (fe : BitVec 32) :
    (s.freqCorrectStep fe).cfg = s.cfg := by simp [State.freqCorrectStep]
@[simp] theorem freqCorrectStep_ch (fe : BitVec 32) :
    (s.freqCorrectStep fe).ch = s.ch := by simp [State.freqCorrectStep]
@[simp] theorem freqCorrectStep_sw (fe : BitVec 32) :
    (s.freqCorrectStep fe).sw = s.sw := by simp [State.freqCorrectStep]
@[simp] theorem freqCorrectStep_syncProfile (fe : BitVec 32) :
    (s.freqCorrectStep fe).syncProfile = s.syncProfile := by simp [State.freqCorrectStep]
@[simp] theorem freqCorrectStep_nonce (fe : BitVec 32) :
    (s.freqCorrectStep fe).nonce = s.nonce := by simp [State.freqCorrectStep]
@[simp] theorem freqCorrectStep_hopIdx (fe : BitVec 32) :
    (s.freqCorrectStep fe).hopIdx = s.hopIdx := by simp [State.freqCorrectStep]
@[simp] theorem freqCorrectStep_linkState (fe : BitVec 32) :
    (s.freqCorrectStep fe).linkState = s.linkState := by simp [State.freqCorrectStep]
@[simp] theorem freqCorrectStep_profileIdx (fe : BitVec 32) :
    (s.freqCorrectStep fe).profileIdx = s.profileIdx := by simp [State.freqCorrectStep]
@[simp] theorem freqCorrectStep_freqCorr (fe : BitVec 32) :
    (s.freqCorrectStep fe).freqCorr = stepCorrection s.cfg s.freqCorr (filter s.freqF fe.toInt s.cfg.wFreq) := by simp [State.freqCorrectStep]
@[simp] theorem freqCorrectStep_phaseF (fe : BitVec 32) :
    (s.freqCorrectStep fe).phaseF = s.phaseF := by simp [State.freqCorrectStep]
@[simp] theorem freqCorrectStep_freqF (fe : BitVec 32) :
    (s.freqCorrectStep fe).freqF = filter s.freqF fe.toInt s.cfg.wFreq := by simp [State.freqCorrectStep]
@[simp] theorem freqCorrectStep_rssiF (fe : BitVec 32) :
    (s.freqCorrectStep fe).rssiF = s.rssiF := by simp [State.freqCorrectStep]
@[simp] theorem freqCorrectStep_snrF (fe : BitVec 32) :
    (s.freqCorrectStep fe).snrF = s.snrF := by simp [State.freqCorrectStep]
@[simp] theorem freqCorrectStep_lqCursor (fe : BitVec 32) :
    (s.freqCorrectStep fe).lqCursor = s.lqCursor := by simp [State.freqCorrectStep]
@[simp] theorem freqCorrectStep_frameSeen (fe : BitVec 32) :
    (s.freqCorrectStep fe).frameSeen = s.frameSeen := by simp [State.freqCorrectStep]
@[simp] theorem freqCorrectStep_errCount (fe : BitVec 32) :
    (s.freqCorrectStep fe).errCount = s.errCount := by simp [State.freqCorrectStep]
@[simp] theorem freqCorrectStep_lastTickTs (fe : BitVec 32) :
    (s.freqCorrectStep fe).lastTickTs = s.lastTickTs := by simp [State.freqCorrectStep]
@[simp] theorem freqCorrectStep_lastValidTs (fe : BitVec 32) :
    (s.freqCorrectStep fe).lastValidTs = s.lastValidTs := by simp [State.freqCorrectStep]
@[simp] theorem freqCorrectStep_scanAnchorTs (fe : BitVec 32) :
    (s.freqCorrectStep fe).scanAnchorTs = s.scanAnchorTs := by simp [State.freqCorrectStep]
@[simp] theorem freqCorrectStep_seq (fe : BitVec 32) :
    (s.freqCorrectStep fe).seq = s.seq := by simp [State.freqCorrectStep]
@[simp] theorem freqCorrectStep_lqw (fe : BitVec 32) :
    (s.freqCorrectStep fe).lqw = s.lqw := by simp [State.freqCorrectStep]
@[simp] theorem freqCorrectStep_req (fe : BitVec 32) :
    (s.freqCorrectStep fe).req = s.req := by simp [State.freqCorrectStep]
@[simp] theorem freqCorrectStep_env (fe : BitVec 32) :
    (s.freqCorrectStep fe).env = s.env := by simp [State.freqCorrectStep]
@[simp] theorem freqCorrectStep_out (fe : BitVec 32) :
    (s.freqCorrectStep fe).out =
      { s.out with cmds := s.out.cmds ++ [.radioSetFrequencyCorrection
        (stepCorrection s.cfg s.freqCorr (filter s.freqF fe.toInt s.cfg.wFreq))] } := by simp [State.freqCorrectStep]

/-! ### `statsUpdate` -/

@[simp] theorem statsUpdate_cfg (rssi : BitVec 16) (snr : BitVec 8) :
    (s.statsUpdate rssi snr).cfg = s.cfg := rfl
@[simp] theorem statsUpdate_ch (rssi : BitVec 16) (snr : BitVec 8) : (s.statsUpdate rssi snr).ch = s.ch := rfl
@[simp] theorem statsUpdate_sw (rssi : BitVec 16) (snr : BitVec 8) : (s.statsUpdate rssi snr).sw = s.sw := rfl
@[simp] theorem statsUpdate_syncProfile (rssi : BitVec 16) (snr : BitVec 8) :
    (s.statsUpdate rssi snr).syncProfile = s.syncProfile := rfl
@[simp] theorem statsUpdate_nonce (rssi : BitVec 16) (snr : BitVec 8) :
    (s.statsUpdate rssi snr).nonce = s.nonce := rfl
@[simp] theorem statsUpdate_hopIdx (rssi : BitVec 16) (snr : BitVec 8) :
    (s.statsUpdate rssi snr).hopIdx = s.hopIdx := rfl
@[simp] theorem statsUpdate_linkState (rssi : BitVec 16) (snr : BitVec 8) :
    (s.statsUpdate rssi snr).linkState = s.linkState := rfl
@[simp] theorem statsUpdate_profileIdx (rssi : BitVec 16) (snr : BitVec 8) :
    (s.statsUpdate rssi snr).profileIdx = s.profileIdx := rfl
@[simp] theorem statsUpdate_freqCorr (rssi : BitVec 16) (snr : BitVec 8) :
    (s.statsUpdate rssi snr).freqCorr = s.freqCorr := rfl
@[simp] theorem statsUpdate_phaseF (rssi : BitVec 16) (snr : BitVec 8) :
    (s.statsUpdate rssi snr).phaseF = s.phaseF := rfl
@[simp] theorem statsUpdate_freqF (rssi : BitVec 16) (snr : BitVec 8) :
    (s.statsUpdate rssi snr).freqF = s.freqF := rfl
@[simp] theorem statsUpdate_rssiF (rssi : BitVec 16) (snr : BitVec 8) :
    (s.statsUpdate rssi snr).rssiF = filter s.rssiF rssi.toInt s.cfg.wRssi := rfl
@[simp] theorem statsUpdate_snrF (rssi : BitVec 16) (snr : BitVec 8) :
    (s.statsUpdate rssi snr).snrF = filter s.snrF snr.toInt s.cfg.wSnr := rfl
@[simp] theorem statsUpdate_lqCursor (rssi : BitVec 16) (snr : BitVec 8) :
    (s.statsUpdate rssi snr).lqCursor = s.lqCursor := rfl
@[simp] theorem statsUpdate_frameSeen (rssi : BitVec 16) (snr : BitVec 8) :
    (s.statsUpdate rssi snr).frameSeen = s.frameSeen := rfl
@[simp] theorem statsUpdate_errCount (rssi : BitVec 16) (snr : BitVec 8) :
    (s.statsUpdate rssi snr).errCount = s.errCount := rfl
@[simp] theorem statsUpdate_lastTickTs (rssi : BitVec 16) (snr : BitVec 8) :
    (s.statsUpdate rssi snr).lastTickTs = s.lastTickTs := rfl
@[simp] theorem statsUpdate_lastValidTs (rssi : BitVec 16) (snr : BitVec 8) :
    (s.statsUpdate rssi snr).lastValidTs = s.lastValidTs := rfl
@[simp] theorem statsUpdate_scanAnchorTs (rssi : BitVec 16) (snr : BitVec 8) :
    (s.statsUpdate rssi snr).scanAnchorTs = s.scanAnchorTs := rfl
@[simp] theorem statsUpdate_seq (rssi : BitVec 16) (snr : BitVec 8) :
    (s.statsUpdate rssi snr).seq = s.seq := rfl
@[simp] theorem statsUpdate_lqw (rssi : BitVec 16) (snr : BitVec 8) :
    (s.statsUpdate rssi snr).lqw = s.lqw := rfl
@[simp] theorem statsUpdate_req (rssi : BitVec 16) (snr : BitVec 8) :
    (s.statsUpdate rssi snr).req = s.req := rfl
@[simp] theorem statsUpdate_env (rssi : BitVec 16) (snr : BitVec 8) :
    (s.statsUpdate rssi snr).env = s.env := rfl
@[simp] theorem statsUpdate_out (rssi : BitVec 16) (snr : BitVec 8) :
    (s.statsUpdate rssi snr).out = s.out := rfl

/-! ### `lqRecord` -/

@[simp] theorem lqRecord_cfg (hit : Bool) : (s.lqRecord hit).cfg = s.cfg := rfl
@[simp] theorem lqRecord_ch (hit : Bool) : (s.lqRecord hit).ch = s.ch := rfl
@[simp] theorem lqRecord_sw (hit : Bool) : (s.lqRecord hit).sw = s.sw := rfl
@[simp] theorem lqRecord_syncProfile (hit : Bool) : (s.lqRecord hit).syncProfile = s.syncProfile := rfl
@[simp] theorem lqRecord_nonce (hit : Bool) : (s.lqRecord hit).nonce = s.nonce := rfl
@[simp] theorem lqRecord_hopIdx (hit : Bool) : (s.lqRecord hit).hopIdx = s.hopIdx := rfl
@[simp] theorem lqRecord_linkState (hit : Bool) : (s.lqRecord hit).linkState = s.linkState := rfl
@[simp] theorem lqRecord_profileIdx (hit : Bool) : (s.lqRecord hit).profileIdx = s.profileIdx := rfl
@[simp] theorem lqRecord_freqCorr (hit : Bool) : (s.lqRecord hit).freqCorr = s.freqCorr := rfl
@[simp] theorem lqRecord_phaseF (hit : Bool) : (s.lqRecord hit).phaseF = s.phaseF := rfl
@[simp] theorem lqRecord_freqF (hit : Bool) : (s.lqRecord hit).freqF = s.freqF := rfl
@[simp] theorem lqRecord_rssiF (hit : Bool) : (s.lqRecord hit).rssiF = s.rssiF := rfl
@[simp] theorem lqRecord_snrF (hit : Bool) : (s.lqRecord hit).snrF = s.snrF := rfl
@[simp] theorem lqRecord_lqCursor (hit : Bool) : (s.lqRecord hit).lqCursor = s.lqCursor + 1 := rfl
@[simp] theorem lqRecord_frameSeen (hit : Bool) : (s.lqRecord hit).frameSeen = s.frameSeen := rfl
@[simp] theorem lqRecord_errCount (hit : Bool) : (s.lqRecord hit).errCount = s.errCount := rfl
@[simp] theorem lqRecord_lastTickTs (hit : Bool) : (s.lqRecord hit).lastTickTs = s.lastTickTs := rfl
@[simp] theorem lqRecord_lastValidTs (hit : Bool) : (s.lqRecord hit).lastValidTs = s.lastValidTs := rfl
@[simp] theorem lqRecord_scanAnchorTs (hit : Bool) : (s.lqRecord hit).scanAnchorTs = s.scanAnchorTs := rfl
@[simp] theorem lqRecord_seq (hit : Bool) : (s.lqRecord hit).seq = s.seq := rfl
@[simp] theorem lqRecord_lqw (hit : Bool) : (s.lqRecord hit).lqw = s.lqw.set s.lqCursor hit := rfl
@[simp] theorem lqRecord_req (hit : Bool) : (s.lqRecord hit).req = s.req := rfl
@[simp] theorem lqRecord_env (hit : Bool) : (s.lqRecord hit).env = s.env := rfl
@[simp] theorem lqRecord_out (hit : Bool) : (s.lqRecord hit).out = s.out := rfl

/-! ### `lqReset` -/

@[simp] theorem lqReset_cfg : s.lqReset.cfg = s.cfg := rfl
@[simp] theorem lqReset_ch : s.lqReset.ch = s.ch := rfl
@[simp] theorem lqReset_sw : s.lqReset.sw = s.sw := rfl
@[simp] theorem lqReset_syncProfile : s.lqReset.syncProfile = s.syncProfile := rfl
@[simp] theorem lqReset_nonce : s.lqReset.nonce = s.nonce := rfl
@[simp] theorem lqReset_hopIdx : s.lqReset.hopIdx = s.hopIdx := rfl
@[simp] theorem lqReset_linkState : s.lqReset.linkState = s.linkState := rfl
@[simp] theorem lqReset_profileIdx : s.lqReset.profileIdx = s.profileIdx := rfl
@[simp] theorem lqReset_freqCorr : s.lqReset.freqCorr = s.freqCorr := rfl
@[simp] theorem lqReset_phaseF : s.lqReset.phaseF = s.phaseF := rfl
@[simp] theorem lqReset_freqF : s.lqReset.freqF = s.freqF := rfl
@[simp] theorem lqReset_rssiF : s.lqReset.rssiF = s.rssiF := rfl
@[simp] theorem lqReset_snrF : s.lqReset.snrF = s.snrF := rfl
@[simp] theorem lqReset_lqCursor : s.lqReset.lqCursor = 0 := rfl
@[simp] theorem lqReset_frameSeen : s.lqReset.frameSeen = false := rfl
@[simp] theorem lqReset_errCount : s.lqReset.errCount = s.errCount := rfl
@[simp] theorem lqReset_lastTickTs : s.lqReset.lastTickTs = s.lastTickTs := rfl
@[simp] theorem lqReset_lastValidTs : s.lqReset.lastValidTs = s.lastValidTs := rfl
@[simp] theorem lqReset_scanAnchorTs : s.lqReset.scanAnchorTs = s.scanAnchorTs := rfl
@[simp] theorem lqReset_seq : s.lqReset.seq = s.seq := rfl
@[simp] theorem lqReset_lqw : s.lqReset.lqw = Vector.replicate 100 false := rfl
@[simp] theorem lqReset_req : s.lqReset.req = s.req := rfl
@[simp] theorem lqReset_env : s.lqReset.env = s.env := rfl
@[simp] theorem lqReset_out : s.lqReset.out = s.out := rfl

/-! ### `enterConnected` -/

@[simp] theorem enterConnected_cfg (tRx : Time) :
    (s.enterConnected tRx).cfg = s.cfg := by simp [State.enterConnected]
@[simp] theorem enterConnected_ch (tRx : Time) :
    (s.enterConnected tRx).ch = s.ch := by simp [State.enterConnected]
@[simp] theorem enterConnected_sw (tRx : Time) :
    (s.enterConnected tRx).sw = s.sw := by simp [State.enterConnected]
@[simp] theorem enterConnected_syncProfile (tRx : Time) :
    (s.enterConnected tRx).syncProfile = s.syncProfile := by simp [State.enterConnected]
@[simp] theorem enterConnected_nonce (tRx : Time) :
    (s.enterConnected tRx).nonce = s.nonce := by simp [State.enterConnected]
@[simp] theorem enterConnected_hopIdx (tRx : Time) :
    (s.enterConnected tRx).hopIdx = s.hopIdx := by simp [State.enterConnected]
@[simp] theorem enterConnected_linkState (tRx : Time) :
    (s.enterConnected tRx).linkState = .connected := by simp [State.enterConnected]
@[simp] theorem enterConnected_profileIdx (tRx : Time) :
    (s.enterConnected tRx).profileIdx = s.profileIdx := by simp [State.enterConnected]
@[simp] theorem enterConnected_freqCorr (tRx : Time) :
    (s.enterConnected tRx).freqCorr = s.freqCorr := by simp [State.enterConnected]
@[simp] theorem enterConnected_phaseF (tRx : Time) :
    (s.enterConnected tRx).phaseF = s.phaseF := by simp [State.enterConnected]
@[simp] theorem enterConnected_freqF (tRx : Time) :
    (s.enterConnected tRx).freqF = s.freqF := by simp [State.enterConnected]
@[simp] theorem enterConnected_rssiF (tRx : Time) :
    (s.enterConnected tRx).rssiF = s.rssiF := by simp [State.enterConnected]
@[simp] theorem enterConnected_snrF (tRx : Time) :
    (s.enterConnected tRx).snrF = s.snrF := by simp [State.enterConnected]
@[simp] theorem enterConnected_lqCursor (tRx : Time) :
    (s.enterConnected tRx).lqCursor = s.lqCursor := by simp [State.enterConnected]
@[simp] theorem enterConnected_frameSeen (tRx : Time) :
    (s.enterConnected tRx).frameSeen = s.frameSeen := by simp [State.enterConnected]
@[simp] theorem enterConnected_errCount (tRx : Time) :
    (s.enterConnected tRx).errCount = s.errCount := by simp [State.enterConnected]
@[simp] theorem enterConnected_lastTickTs (tRx : Time) :
    (s.enterConnected tRx).lastTickTs = s.lastTickTs := by simp [State.enterConnected]
@[simp] theorem enterConnected_lastValidTs (tRx : Time) :
    (s.enterConnected tRx).lastValidTs = s.lastValidTs := by simp [State.enterConnected]
@[simp] theorem enterConnected_scanAnchorTs (tRx : Time) :
    (s.enterConnected tRx).scanAnchorTs = tRx := by simp [State.enterConnected]
@[simp] theorem enterConnected_seq (tRx : Time) :
    (s.enterConnected tRx).seq = s.seq := by simp [State.enterConnected]
@[simp] theorem enterConnected_lqw (tRx : Time) :
    (s.enterConnected tRx).lqw = s.lqw := by simp [State.enterConnected]
@[simp] theorem enterConnected_req (tRx : Time) :
    (s.enterConnected tRx).req = s.req := by simp [State.enterConnected]
@[simp] theorem enterConnected_env (tRx : Time) :
    (s.enterConnected tRx).env = s.env := by simp [State.enterConnected]
@[simp] theorem enterConnected_out (tRx : Time) :
    (s.enterConnected tRx).out = { s.out with cmds := s.out.cmds ++ [.signalLinkUp] } := by simp [State.enterConnected]

/-! ### `enterDisconnected` -/

@[simp] theorem enterDisconnected_cfg : s.enterDisconnected.cfg = s.cfg := by simp [State.enterDisconnected]
@[simp] theorem enterDisconnected_ch : s.enterDisconnected.ch = s.ch := by simp [State.enterDisconnected]
@[simp] theorem enterDisconnected_sw : s.enterDisconnected.sw = s.sw := by simp [State.enterDisconnected]
@[simp] theorem enterDisconnected_syncProfile :
    s.enterDisconnected.syncProfile = s.syncProfile := by simp [State.enterDisconnected]
@[simp] theorem enterDisconnected_nonce :
    s.enterDisconnected.nonce = s.nonce := by simp [State.enterDisconnected]
@[simp] theorem enterDisconnected_hopIdx : s.enterDisconnected.hopIdx = 0 := by simp [State.enterDisconnected]
@[simp] theorem enterDisconnected_linkState :
    s.enterDisconnected.linkState = .disconnected := by simp [State.enterDisconnected]
@[simp] theorem enterDisconnected_profileIdx :
    s.enterDisconnected.profileIdx = s.profileIdx := by simp [State.enterDisconnected]
@[simp] theorem enterDisconnected_freqCorr :
    s.enterDisconnected.freqCorr = 0 := by simp [State.enterDisconnected]
@[simp] theorem enterDisconnected_phaseF : s.enterDisconnected.phaseF = 0 := by simp [State.enterDisconnected]
@[simp] theorem enterDisconnected_freqF : s.enterDisconnected.freqF = 0 := by simp [State.enterDisconnected]
@[simp] theorem enterDisconnected_rssiF : s.enterDisconnected.rssiF = 0 := by simp [State.enterDisconnected]
@[simp] theorem enterDisconnected_snrF : s.enterDisconnected.snrF = 0 := by simp [State.enterDisconnected]
@[simp] theorem enterDisconnected_lqCursor :
    s.enterDisconnected.lqCursor = s.lqCursor := by simp [State.enterDisconnected]
@[simp] theorem enterDisconnected_frameSeen :
    s.enterDisconnected.frameSeen = s.frameSeen := by simp [State.enterDisconnected]
@[simp] theorem enterDisconnected_errCount :
    s.enterDisconnected.errCount = s.errCount := by simp [State.enterDisconnected]
@[simp] theorem enterDisconnected_lastTickTs :
    s.enterDisconnected.lastTickTs = s.lastTickTs := by simp [State.enterDisconnected]
@[simp] theorem enterDisconnected_lastValidTs :
    s.enterDisconnected.lastValidTs = s.lastValidTs := by simp [State.enterDisconnected]
@[simp] theorem enterDisconnected_scanAnchorTs :
    s.enterDisconnected.scanAnchorTs = s.scanAnchorTs := by simp [State.enterDisconnected]
@[simp] theorem enterDisconnected_seq : s.enterDisconnected.seq = s.seq := by simp [State.enterDisconnected]
@[simp] theorem enterDisconnected_lqw : s.enterDisconnected.lqw = s.lqw := by simp [State.enterDisconnected]
@[simp] theorem enterDisconnected_req : s.enterDisconnected.req = s.req := by simp [State.enterDisconnected]
@[simp] theorem enterDisconnected_env : s.enterDisconnected.env = s.env := by simp [State.enterDisconnected]

/-! ### `loadSchedule` -/

@[simp] theorem loadSchedule_cfg (h n p : Byte) :
    (s.loadSchedule h n p).cfg = s.cfg := by simp [State.loadSchedule]
@[simp] theorem loadSchedule_ch (h n p : Byte) :
    (s.loadSchedule h n p).ch = s.ch := by simp [State.loadSchedule]
@[simp] theorem loadSchedule_sw (h n p : Byte) :
    (s.loadSchedule h n p).sw = s.sw := by simp [State.loadSchedule]
@[simp] theorem loadSchedule_syncProfile (h n p : Byte) :
    (s.loadSchedule h n p).syncProfile = p := by simp [State.loadSchedule]
@[simp] theorem loadSchedule_nonce (h n p : Byte) :
    (s.loadSchedule h n p).nonce = n := by simp [State.loadSchedule]
@[simp] theorem loadSchedule_hopIdx (h n p : Byte) :
    (s.loadSchedule h n p).hopIdx = BitVec.ofNat 8 (h.toNat % s.cfg.hopN) := by simp [State.loadSchedule]
@[simp] theorem loadSchedule_linkState (h n p : Byte) :
    (s.loadSchedule h n p).linkState = s.linkState := by simp [State.loadSchedule]
@[simp] theorem loadSchedule_profileIdx (h n p : Byte) :
    (s.loadSchedule h n p).profileIdx = s.profileIdx := by simp [State.loadSchedule]
@[simp] theorem loadSchedule_freqCorr (h n p : Byte) :
    (s.loadSchedule h n p).freqCorr = s.freqCorr := by simp [State.loadSchedule]
@[simp] theorem loadSchedule_phaseF (h n p : Byte) :
    (s.loadSchedule h n p).phaseF = s.phaseF := by simp [State.loadSchedule]
@[simp] theorem loadSchedule_freqF (h n p : Byte) :
    (s.loadSchedule h n p).freqF = s.freqF := by simp [State.loadSchedule]
@[simp] theorem loadSchedule_rssiF (h n p : Byte) :
    (s.loadSchedule h n p).rssiF = s.rssiF := by simp [State.loadSchedule]
@[simp] theorem loadSchedule_snrF (h n p : Byte) :
    (s.loadSchedule h n p).snrF = s.snrF := by simp [State.loadSchedule]
@[simp] theorem loadSchedule_lqCursor (h n p : Byte) :
    (s.loadSchedule h n p).lqCursor = s.lqCursor := by simp [State.loadSchedule]
@[simp] theorem loadSchedule_frameSeen (h n p : Byte) :
    (s.loadSchedule h n p).frameSeen = s.frameSeen := by simp [State.loadSchedule]
@[simp] theorem loadSchedule_errCount (h n p : Byte) :
    (s.loadSchedule h n p).errCount = s.errCount := by simp [State.loadSchedule]
@[simp] theorem loadSchedule_lastTickTs (h n p : Byte) :
    (s.loadSchedule h n p).lastTickTs = s.lastTickTs := by simp [State.loadSchedule]
@[simp] theorem loadSchedule_lastValidTs (h n p : Byte) :
    (s.loadSchedule h n p).lastValidTs = s.lastValidTs := by simp [State.loadSchedule]
@[simp] theorem loadSchedule_scanAnchorTs (h n p : Byte) :
    (s.loadSchedule h n p).scanAnchorTs = s.scanAnchorTs := by simp [State.loadSchedule]
@[simp] theorem loadSchedule_seq (h n p : Byte) :
    (s.loadSchedule h n p).seq = s.seq := by simp [State.loadSchedule]
@[simp] theorem loadSchedule_lqw (h n p : Byte) :
    (s.loadSchedule h n p).lqw = s.lqw := by simp [State.loadSchedule]
@[simp] theorem loadSchedule_req (h n p : Byte) :
    (s.loadSchedule h n p).req = s.req := by simp [State.loadSchedule]
@[simp] theorem loadSchedule_env (h n p : Byte) :
    (s.loadSchedule h n p).env = s.env := by simp [State.loadSchedule]
@[simp] theorem loadSchedule_out (h n p : Byte) :
    (s.loadSchedule h n p).out = s.out := by simp [State.loadSchedule]

/-! ### `rcAction` -/

@[simp] theorem rcAction_cfg (c : Channels) : (s.rcAction c).cfg = s.cfg := by simp [State.rcAction]
@[simp] theorem rcAction_ch (c : Channels) : (s.rcAction c).ch = c := by simp [State.rcAction]
@[simp] theorem rcAction_sw (c : Channels) : (s.rcAction c).sw = s.sw := by simp [State.rcAction]
@[simp] theorem rcAction_syncProfile (c : Channels) :
    (s.rcAction c).syncProfile = s.syncProfile := by simp [State.rcAction]
@[simp] theorem rcAction_nonce (c : Channels) : (s.rcAction c).nonce = s.nonce := by simp [State.rcAction]
@[simp] theorem rcAction_hopIdx (c : Channels) : (s.rcAction c).hopIdx = s.hopIdx := by simp [State.rcAction]
@[simp] theorem rcAction_linkState (c : Channels) :
    (s.rcAction c).linkState = s.linkState := by simp [State.rcAction]
@[simp] theorem rcAction_profileIdx (c : Channels) :
    (s.rcAction c).profileIdx = s.profileIdx := by simp [State.rcAction]
@[simp] theorem rcAction_freqCorr (c : Channels) :
    (s.rcAction c).freqCorr = s.freqCorr := by simp [State.rcAction]
@[simp] theorem rcAction_phaseF (c : Channels) : (s.rcAction c).phaseF = s.phaseF := by simp [State.rcAction]
@[simp] theorem rcAction_freqF (c : Channels) : (s.rcAction c).freqF = s.freqF := by simp [State.rcAction]
@[simp] theorem rcAction_rssiF (c : Channels) : (s.rcAction c).rssiF = s.rssiF := by simp [State.rcAction]
@[simp] theorem rcAction_snrF (c : Channels) : (s.rcAction c).snrF = s.snrF := by simp [State.rcAction]
@[simp] theorem rcAction_lqCursor (c : Channels) :
    (s.rcAction c).lqCursor = s.lqCursor := by simp [State.rcAction]
@[simp] theorem rcAction_frameSeen (c : Channels) :
    (s.rcAction c).frameSeen = s.frameSeen := by simp [State.rcAction]
@[simp] theorem rcAction_errCount (c : Channels) :
    (s.rcAction c).errCount = s.errCount := by simp [State.rcAction]
@[simp] theorem rcAction_lastTickTs (c : Channels) :
    (s.rcAction c).lastTickTs = s.lastTickTs := by simp [State.rcAction]
@[simp] theorem rcAction_lastValidTs (c : Channels) :
    (s.rcAction c).lastValidTs = s.lastValidTs := by simp [State.rcAction]
@[simp] theorem rcAction_scanAnchorTs (c : Channels) :
    (s.rcAction c).scanAnchorTs = s.scanAnchorTs := by simp [State.rcAction]
@[simp] theorem rcAction_seq (c : Channels) : (s.rcAction c).seq = s.seq := by simp [State.rcAction]
@[simp] theorem rcAction_lqw (c : Channels) : (s.rcAction c).lqw = s.lqw := by simp [State.rcAction]
@[simp] theorem rcAction_req (c : Channels) : (s.rcAction c).req = s.req := by simp [State.rcAction]
@[simp] theorem rcAction_env (c : Channels) : (s.rcAction c).env = s.env := by simp [State.rcAction]
@[simp] theorem rcAction_out (c : Channels) :
    (s.rcAction c).out = { s.out with cmds := s.out.cmds ++ [.serialRcValid] } := by simp [State.rcAction]

/-! ### `switchAction` -/

@[simp] theorem switchAction_cfg (w : Switches) :
    (s.switchAction w).cfg = s.cfg := by simp [State.switchAction]
@[simp] theorem switchAction_ch (w : Switches) : (s.switchAction w).ch = s.ch := by simp [State.switchAction]
@[simp] theorem switchAction_sw (w : Switches) : (s.switchAction w).sw = w := by simp [State.switchAction]
@[simp] theorem switchAction_syncProfile (w : Switches) :
    (s.switchAction w).syncProfile = s.syncProfile := by simp [State.switchAction]
@[simp] theorem switchAction_nonce (w : Switches) :
    (s.switchAction w).nonce = s.nonce := by simp [State.switchAction]
@[simp] theorem switchAction_hopIdx (w : Switches) :
    (s.switchAction w).hopIdx = s.hopIdx := by simp [State.switchAction]
@[simp] theorem switchAction_linkState (w : Switches) :
    (s.switchAction w).linkState = s.linkState := by simp [State.switchAction]
@[simp] theorem switchAction_profileIdx (w : Switches) :
    (s.switchAction w).profileIdx = s.profileIdx := by simp [State.switchAction]
@[simp] theorem switchAction_freqCorr (w : Switches) :
    (s.switchAction w).freqCorr = s.freqCorr := by simp [State.switchAction]
@[simp] theorem switchAction_phaseF (w : Switches) :
    (s.switchAction w).phaseF = s.phaseF := by simp [State.switchAction]
@[simp] theorem switchAction_freqF (w : Switches) :
    (s.switchAction w).freqF = s.freqF := by simp [State.switchAction]
@[simp] theorem switchAction_rssiF (w : Switches) :
    (s.switchAction w).rssiF = s.rssiF := by simp [State.switchAction]
@[simp] theorem switchAction_snrF (w : Switches) :
    (s.switchAction w).snrF = s.snrF := by simp [State.switchAction]
@[simp] theorem switchAction_lqCursor (w : Switches) :
    (s.switchAction w).lqCursor = s.lqCursor := by simp [State.switchAction]
@[simp] theorem switchAction_frameSeen (w : Switches) :
    (s.switchAction w).frameSeen = s.frameSeen := by simp [State.switchAction]
@[simp] theorem switchAction_errCount (w : Switches) :
    (s.switchAction w).errCount = s.errCount := by simp [State.switchAction]
@[simp] theorem switchAction_lastTickTs (w : Switches) :
    (s.switchAction w).lastTickTs = s.lastTickTs := by simp [State.switchAction]
@[simp] theorem switchAction_lastValidTs (w : Switches) :
    (s.switchAction w).lastValidTs = s.lastValidTs := by simp [State.switchAction]
@[simp] theorem switchAction_scanAnchorTs (w : Switches) :
    (s.switchAction w).scanAnchorTs = s.scanAnchorTs := by simp [State.switchAction]
@[simp] theorem switchAction_seq (w : Switches) :
    (s.switchAction w).seq = s.seq := by simp [State.switchAction]
@[simp] theorem switchAction_lqw (w : Switches) :
    (s.switchAction w).lqw = s.lqw := by simp [State.switchAction]
@[simp] theorem switchAction_req (w : Switches) :
    (s.switchAction w).req = s.req := by simp [State.switchAction]
@[simp] theorem switchAction_env (w : Switches) :
    (s.switchAction w).env = s.env := by simp [State.switchAction]
@[simp] theorem switchAction_out (w : Switches) :
    (s.switchAction w).out = { s.out with cmds := s.out.cmds ++ [.serialSwValid] } := by simp [State.switchAction]

/-! ### `closeSlot` -/

@[simp] theorem closeSlot_cfg (now : Time) : (s.closeSlot now).cfg = s.cfg := by simp [State.closeSlot]
@[simp] theorem closeSlot_ch (now : Time) : (s.closeSlot now).ch = s.ch := by simp [State.closeSlot]
@[simp] theorem closeSlot_sw (now : Time) : (s.closeSlot now).sw = s.sw := by simp [State.closeSlot]
@[simp] theorem closeSlot_syncProfile (now : Time) :
    (s.closeSlot now).syncProfile = s.syncProfile := by simp [State.closeSlot]
@[simp] theorem closeSlot_nonce (now : Time) : (s.closeSlot now).nonce = s.nonce := by simp [State.closeSlot]
@[simp] theorem closeSlot_hopIdx (now : Time) :
    (s.closeSlot now).hopIdx = s.hopIdx := by simp [State.closeSlot]
@[simp] theorem closeSlot_linkState (now : Time) :
    (s.closeSlot now).linkState = s.linkState := by simp [State.closeSlot]
@[simp] theorem closeSlot_profileIdx (now : Time) :
    (s.closeSlot now).profileIdx = s.profileIdx := by simp [State.closeSlot]
@[simp] theorem closeSlot_freqCorr (now : Time) :
    (s.closeSlot now).freqCorr = s.freqCorr := by simp [State.closeSlot]
@[simp] theorem closeSlot_phaseF (now : Time) :
    (s.closeSlot now).phaseF = s.phaseF := by simp [State.closeSlot]
@[simp] theorem closeSlot_freqF (now : Time) : (s.closeSlot now).freqF = s.freqF := by simp [State.closeSlot]
@[simp] theorem closeSlot_rssiF (now : Time) : (s.closeSlot now).rssiF = s.rssiF := by simp [State.closeSlot]
@[simp] theorem closeSlot_snrF (now : Time) : (s.closeSlot now).snrF = s.snrF := by simp [State.closeSlot]
@[simp] theorem closeSlot_lqCursor (now : Time) :
    (s.closeSlot now).lqCursor = s.lqCursor + 1 := by simp [State.closeSlot]
@[simp] theorem closeSlot_frameSeen (now : Time) :
    (s.closeSlot now).frameSeen = false := by simp [State.closeSlot]
@[simp] theorem closeSlot_errCount (now : Time) :
    (s.closeSlot now).errCount = s.errCount := by simp [State.closeSlot]
@[simp] theorem closeSlot_lastTickTs (now : Time) :
    (s.closeSlot now).lastTickTs = now := by simp [State.closeSlot]
@[simp] theorem closeSlot_lastValidTs (now : Time) :
    (s.closeSlot now).lastValidTs = s.lastValidTs := by simp [State.closeSlot]
@[simp] theorem closeSlot_scanAnchorTs (now : Time) :
    (s.closeSlot now).scanAnchorTs = s.scanAnchorTs := by simp [State.closeSlot]
@[simp] theorem closeSlot_seq (now : Time) : (s.closeSlot now).seq = s.seq := by simp [State.closeSlot]
@[simp] theorem closeSlot_lqw (now : Time) :
    (s.closeSlot now).lqw = s.lqw.set s.lqCursor s.frameSeen := by simp [State.closeSlot]
@[simp] theorem closeSlot_req (now : Time) : (s.closeSlot now).req = s.req := by simp [State.closeSlot]
@[simp] theorem closeSlot_env (now : Time) : (s.closeSlot now).env = s.env := by simp [State.closeSlot]
@[simp] theorem closeSlot_out (now : Time) : (s.closeSlot now).out = s.out := by simp [State.closeSlot]

/-! ### `nonceAdvance` -/

@[simp] theorem nonceAdvance_cfg : s.nonceAdvance.cfg = s.cfg := rfl
@[simp] theorem nonceAdvance_ch : s.nonceAdvance.ch = s.ch := rfl
@[simp] theorem nonceAdvance_sw : s.nonceAdvance.sw = s.sw := rfl
@[simp] theorem nonceAdvance_syncProfile : s.nonceAdvance.syncProfile = s.syncProfile := rfl
@[simp] theorem nonceAdvance_nonce : s.nonceAdvance.nonce = s.nonce + 1 := rfl
@[simp] theorem nonceAdvance_hopIdx : s.nonceAdvance.hopIdx = s.hopIdx := rfl
@[simp] theorem nonceAdvance_linkState : s.nonceAdvance.linkState = s.linkState := rfl
@[simp] theorem nonceAdvance_profileIdx : s.nonceAdvance.profileIdx = s.profileIdx := rfl
@[simp] theorem nonceAdvance_freqCorr : s.nonceAdvance.freqCorr = s.freqCorr := rfl
@[simp] theorem nonceAdvance_phaseF : s.nonceAdvance.phaseF = s.phaseF := rfl
@[simp] theorem nonceAdvance_freqF : s.nonceAdvance.freqF = s.freqF := rfl
@[simp] theorem nonceAdvance_rssiF : s.nonceAdvance.rssiF = s.rssiF := rfl
@[simp] theorem nonceAdvance_snrF : s.nonceAdvance.snrF = s.snrF := rfl
@[simp] theorem nonceAdvance_lqCursor : s.nonceAdvance.lqCursor = s.lqCursor := rfl
@[simp] theorem nonceAdvance_frameSeen : s.nonceAdvance.frameSeen = s.frameSeen := rfl
@[simp] theorem nonceAdvance_errCount : s.nonceAdvance.errCount = s.errCount := rfl
@[simp] theorem nonceAdvance_lastTickTs : s.nonceAdvance.lastTickTs = s.lastTickTs := rfl
@[simp] theorem nonceAdvance_lastValidTs : s.nonceAdvance.lastValidTs = s.lastValidTs := rfl
@[simp] theorem nonceAdvance_scanAnchorTs : s.nonceAdvance.scanAnchorTs = s.scanAnchorTs := rfl
@[simp] theorem nonceAdvance_seq : s.nonceAdvance.seq = s.seq := rfl
@[simp] theorem nonceAdvance_lqw : s.nonceAdvance.lqw = s.lqw := rfl
@[simp] theorem nonceAdvance_req : s.nonceAdvance.req = s.req := rfl
@[simp] theorem nonceAdvance_env : s.nonceAdvance.env = s.env := rfl
@[simp] theorem nonceAdvance_out : s.nonceAdvance.out = s.out := rfl

/-! ### `acceptFrame` -/

@[simp] theorem acceptFrame_cfg (tRx : Time) (rssi : BitVec 16) (snr : BitVec 8) :
    (s.acceptFrame tRx rssi snr).cfg = s.cfg := by simp [State.acceptFrame]
@[simp] theorem acceptFrame_ch (tRx : Time) (rssi : BitVec 16) (snr : BitVec 8) :
    (s.acceptFrame tRx rssi snr).ch = s.ch := by simp [State.acceptFrame]
@[simp] theorem acceptFrame_sw (tRx : Time) (rssi : BitVec 16) (snr : BitVec 8) :
    (s.acceptFrame tRx rssi snr).sw = s.sw := by simp [State.acceptFrame]
@[simp] theorem acceptFrame_syncProfile (tRx : Time) (rssi : BitVec 16) (snr : BitVec 8) :
    (s.acceptFrame tRx rssi snr).syncProfile = s.syncProfile := by simp [State.acceptFrame]
@[simp] theorem acceptFrame_nonce (tRx : Time) (rssi : BitVec 16) (snr : BitVec 8) :
    (s.acceptFrame tRx rssi snr).nonce = s.nonce := by simp [State.acceptFrame]
@[simp] theorem acceptFrame_hopIdx (tRx : Time) (rssi : BitVec 16) (snr : BitVec 8) :
    (s.acceptFrame tRx rssi snr).hopIdx = s.hopIdx := by simp [State.acceptFrame]
@[simp] theorem acceptFrame_linkState (tRx : Time) (rssi : BitVec 16) (snr : BitVec 8) :
    (s.acceptFrame tRx rssi snr).linkState = s.linkState := by simp [State.acceptFrame]
@[simp] theorem acceptFrame_profileIdx (tRx : Time) (rssi : BitVec 16) (snr : BitVec 8) :
    (s.acceptFrame tRx rssi snr).profileIdx = s.profileIdx := by simp [State.acceptFrame]
@[simp] theorem acceptFrame_freqCorr (tRx : Time) (rssi : BitVec 16) (snr : BitVec 8) :
    (s.acceptFrame tRx rssi snr).freqCorr = s.freqCorr := by simp [State.acceptFrame]
@[simp] theorem acceptFrame_phaseF (tRx : Time) (rssi : BitVec 16) (snr : BitVec 8) :
    (s.acceptFrame tRx rssi snr).phaseF = s.phaseF := by simp [State.acceptFrame]
@[simp] theorem acceptFrame_freqF (tRx : Time) (rssi : BitVec 16) (snr : BitVec 8) :
    (s.acceptFrame tRx rssi snr).freqF = s.freqF := by simp [State.acceptFrame]
@[simp] theorem acceptFrame_rssiF (tRx : Time) (rssi : BitVec 16) (snr : BitVec 8) :
    (s.acceptFrame tRx rssi snr).rssiF = filter s.rssiF rssi.toInt s.cfg.wRssi := by simp [State.acceptFrame]
@[simp] theorem acceptFrame_snrF (tRx : Time) (rssi : BitVec 16) (snr : BitVec 8) :
    (s.acceptFrame tRx rssi snr).snrF = filter s.snrF snr.toInt s.cfg.wSnr := by simp [State.acceptFrame]
@[simp] theorem acceptFrame_lqCursor (tRx : Time) (rssi : BitVec 16) (snr : BitVec 8) :
    (s.acceptFrame tRx rssi snr).lqCursor = s.lqCursor := by simp [State.acceptFrame]
@[simp] theorem acceptFrame_frameSeen (tRx : Time) (rssi : BitVec 16) (snr : BitVec 8) :
    (s.acceptFrame tRx rssi snr).frameSeen = true := by simp [State.acceptFrame]
@[simp] theorem acceptFrame_errCount (tRx : Time) (rssi : BitVec 16) (snr : BitVec 8) :
    (s.acceptFrame tRx rssi snr).errCount = s.errCount := by simp [State.acceptFrame]
@[simp] theorem acceptFrame_lastTickTs (tRx : Time) (rssi : BitVec 16) (snr : BitVec 8) :
    (s.acceptFrame tRx rssi snr).lastTickTs = s.lastTickTs := by simp [State.acceptFrame]
@[simp] theorem acceptFrame_lastValidTs (tRx : Time) (rssi : BitVec 16) (snr : BitVec 8) :
    (s.acceptFrame tRx rssi snr).lastValidTs = tRx := by simp [State.acceptFrame]
@[simp] theorem acceptFrame_scanAnchorTs (tRx : Time) (rssi : BitVec 16) (snr : BitVec 8) :
    (s.acceptFrame tRx rssi snr).scanAnchorTs = s.scanAnchorTs := by simp [State.acceptFrame]
@[simp] theorem acceptFrame_seq (tRx : Time) (rssi : BitVec 16) (snr : BitVec 8) :
    (s.acceptFrame tRx rssi snr).seq = s.seq := by simp [State.acceptFrame]
@[simp] theorem acceptFrame_lqw (tRx : Time) (rssi : BitVec 16) (snr : BitVec 8) :
    (s.acceptFrame tRx rssi snr).lqw = s.lqw := by simp [State.acceptFrame]
@[simp] theorem acceptFrame_req (tRx : Time) (rssi : BitVec 16) (snr : BitVec 8) :
    (s.acceptFrame tRx rssi snr).req = s.req := by simp [State.acceptFrame]
@[simp] theorem acceptFrame_env (tRx : Time) (rssi : BitVec 16) (snr : BitVec 8) :
    (s.acceptFrame tRx rssi snr).env = s.env := by simp [State.acceptFrame]
@[simp] theorem acceptFrame_out (tRx : Time) (rssi : BitVec 16) (snr : BitVec 8) :
    (s.acceptFrame tRx rssi snr).out = s.out := by simp [State.acceptFrame]

/-! ### `setProfile` -/

@[simp] theorem setProfile_cfg (p : BitVec 8) (now : Time) :
    (s.setProfile p now).cfg = s.cfg := by simp [State.setProfile]
@[simp] theorem setProfile_ch (p : BitVec 8) (now : Time) :
    (s.setProfile p now).ch = s.ch := by simp [State.setProfile]
@[simp] theorem setProfile_sw (p : BitVec 8) (now : Time) :
    (s.setProfile p now).sw = s.sw := by simp [State.setProfile]
@[simp] theorem setProfile_syncProfile (p : BitVec 8) (now : Time) :
    (s.setProfile p now).syncProfile = s.syncProfile := by simp [State.setProfile]
@[simp] theorem setProfile_nonce (p : BitVec 8) (now : Time) :
    (s.setProfile p now).nonce = s.nonce := by simp [State.setProfile]
@[simp] theorem setProfile_hopIdx (p : BitVec 8) (now : Time) :
    (s.setProfile p now).hopIdx = 0 := by simp [State.setProfile]
@[simp] theorem setProfile_linkState (p : BitVec 8) (now : Time) :
    (s.setProfile p now).linkState = s.linkState := by simp [State.setProfile]
@[simp] theorem setProfile_profileIdx (p : BitVec 8) (now : Time) :
    (s.setProfile p now).profileIdx = p := by simp [State.setProfile]
@[simp] theorem setProfile_freqCorr (p : BitVec 8) (now : Time) :
    (s.setProfile p now).freqCorr = s.freqCorr := by simp [State.setProfile]
@[simp] theorem setProfile_phaseF (p : BitVec 8) (now : Time) :
    (s.setProfile p now).phaseF = 0 := by simp [State.setProfile]
@[simp] theorem setProfile_freqF (p : BitVec 8) (now : Time) :
    (s.setProfile p now).freqF = 0 := by simp [State.setProfile]
@[simp] theorem setProfile_rssiF (p : BitVec 8) (now : Time) :
    (s.setProfile p now).rssiF = 0 := by simp [State.setProfile]
@[simp] theorem setProfile_snrF (p : BitVec 8) (now : Time) :
    (s.setProfile p now).snrF = 0 := by simp [State.setProfile]
@[simp] theorem setProfile_lqCursor (p : BitVec 8) (now : Time) :
    (s.setProfile p now).lqCursor = 0 := by simp [State.setProfile]
@[simp] theorem setProfile_frameSeen (p : BitVec 8) (now : Time) :
    (s.setProfile p now).frameSeen = false := by simp [State.setProfile]
@[simp] theorem setProfile_errCount (p : BitVec 8) (now : Time) :
    (s.setProfile p now).errCount = s.errCount := by simp [State.setProfile]
@[simp] theorem setProfile_lastTickTs (p : BitVec 8) (now : Time) :
    (s.setProfile p now).lastTickTs = s.lastTickTs := by simp [State.setProfile]
@[simp] theorem setProfile_lastValidTs (p : BitVec 8) (now : Time) :
    (s.setProfile p now).lastValidTs = s.lastValidTs := by simp [State.setProfile]
@[simp] theorem setProfile_scanAnchorTs (p : BitVec 8) (now : Time) :
    (s.setProfile p now).scanAnchorTs = now := by simp [State.setProfile]
@[simp] theorem setProfile_seq (p : BitVec 8) (now : Time) :
    (s.setProfile p now).seq = s.seq := by simp [State.setProfile]
@[simp] theorem setProfile_lqw (p : BitVec 8) (now : Time) :
    (s.setProfile p now).lqw = Vector.replicate 100 false := by simp [State.setProfile]
@[simp] theorem setProfile_req (p : BitVec 8) (now : Time) :
    (s.setProfile p now).req = s.req := by simp [State.setProfile]
@[simp] theorem setProfile_env (p : BitVec 8) (now : Time) :
    (s.setProfile p now).env = s.env := by simp [State.setProfile]

/-! ### `resetRegisters` -/

@[simp] theorem resetRegisters_cfg (now : Time) :
    (s.resetRegisters now).cfg = s.cfg := by simp [State.resetRegisters]
@[simp] theorem resetRegisters_ch (now : Time) :
    (s.resetRegisters now).ch = ⟨0, 0, 0, 0⟩ := by simp [State.resetRegisters]
@[simp] theorem resetRegisters_sw (now : Time) :
    (s.resetRegisters now).sw = ⟨0, 0, 0, 0⟩ := by simp [State.resetRegisters]
@[simp] theorem resetRegisters_syncProfile (now : Time) :
    (s.resetRegisters now).syncProfile = 0 := by simp [State.resetRegisters]
@[simp] theorem resetRegisters_nonce (now : Time) :
    (s.resetRegisters now).nonce = 0 := by simp [State.resetRegisters]
@[simp] theorem resetRegisters_hopIdx (now : Time) :
    (s.resetRegisters now).hopIdx = 0 := by simp [State.resetRegisters]
@[simp] theorem resetRegisters_linkState (now : Time) :
    (s.resetRegisters now).linkState = .disconnected := by simp [State.resetRegisters]
@[simp] theorem resetRegisters_profileIdx (now : Time) :
    (s.resetRegisters now).profileIdx = s.cfg.bootProfile := by simp [State.resetRegisters]
@[simp] theorem resetRegisters_freqCorr (now : Time) :
    (s.resetRegisters now).freqCorr = 0 := by simp [State.resetRegisters]
@[simp] theorem resetRegisters_phaseF (now : Time) :
    (s.resetRegisters now).phaseF = 0 := by simp [State.resetRegisters]
@[simp] theorem resetRegisters_freqF (now : Time) :
    (s.resetRegisters now).freqF = 0 := by simp [State.resetRegisters]
@[simp] theorem resetRegisters_rssiF (now : Time) :
    (s.resetRegisters now).rssiF = 0 := by simp [State.resetRegisters]
@[simp] theorem resetRegisters_snrF (now : Time) :
    (s.resetRegisters now).snrF = 0 := by simp [State.resetRegisters]
@[simp] theorem resetRegisters_lqCursor (now : Time) :
    (s.resetRegisters now).lqCursor = 0 := by simp [State.resetRegisters]
@[simp] theorem resetRegisters_frameSeen (now : Time) :
    (s.resetRegisters now).frameSeen = false := by simp [State.resetRegisters]
@[simp] theorem resetRegisters_errCount (now : Time) :
    (s.resetRegisters now).errCount = 0 := by simp [State.resetRegisters]
@[simp] theorem resetRegisters_lastTickTs (now : Time) :
    (s.resetRegisters now).lastTickTs = now := by simp [State.resetRegisters]
@[simp] theorem resetRegisters_lastValidTs (now : Time) :
    (s.resetRegisters now).lastValidTs = now := by simp [State.resetRegisters]
@[simp] theorem resetRegisters_scanAnchorTs (now : Time) :
    (s.resetRegisters now).scanAnchorTs = now := by simp [State.resetRegisters]
@[simp] theorem resetRegisters_seq (now : Time) :
    (s.resetRegisters now).seq = s.cfg.sequence := by simp [State.resetRegisters]
@[simp] theorem resetRegisters_lqw (now : Time) :
    (s.resetRegisters now).lqw = Vector.replicate 100 false := by simp [State.resetRegisters]
@[simp] theorem resetRegisters_req (now : Time) :
    (s.resetRegisters now).req = s.req := by simp [State.resetRegisters]
@[simp] theorem resetRegisters_env (now : Time) :
    (s.resetRegisters now).env = s.env := by simp [State.resetRegisters]
@[simp] theorem resetRegisters_out (now : Time) :
    (s.resetRegisters now).out = s.out := by simp [State.resetRegisters]

/-! ### `resetCommands` -/

@[simp] theorem resetCommands_cfg : s.resetCommands.cfg = s.cfg := by simp [State.resetCommands]
@[simp] theorem resetCommands_ch : s.resetCommands.ch = s.ch := by simp [State.resetCommands]
@[simp] theorem resetCommands_sw : s.resetCommands.sw = s.sw := by simp [State.resetCommands]
@[simp] theorem resetCommands_syncProfile :
    s.resetCommands.syncProfile = s.syncProfile := by simp [State.resetCommands]
@[simp] theorem resetCommands_nonce : s.resetCommands.nonce = s.nonce := by simp [State.resetCommands]
@[simp] theorem resetCommands_hopIdx : s.resetCommands.hopIdx = s.hopIdx := by simp [State.resetCommands]
@[simp] theorem resetCommands_linkState :
    s.resetCommands.linkState = s.linkState := by simp [State.resetCommands]
@[simp] theorem resetCommands_profileIdx :
    s.resetCommands.profileIdx = s.profileIdx := by simp [State.resetCommands]
@[simp] theorem resetCommands_freqCorr :
    s.resetCommands.freqCorr = s.freqCorr := by simp [State.resetCommands]
@[simp] theorem resetCommands_phaseF : s.resetCommands.phaseF = s.phaseF := by simp [State.resetCommands]
@[simp] theorem resetCommands_freqF : s.resetCommands.freqF = s.freqF := by simp [State.resetCommands]
@[simp] theorem resetCommands_rssiF : s.resetCommands.rssiF = s.rssiF := by simp [State.resetCommands]
@[simp] theorem resetCommands_snrF : s.resetCommands.snrF = s.snrF := by simp [State.resetCommands]
@[simp] theorem resetCommands_lqCursor :
    s.resetCommands.lqCursor = s.lqCursor := by simp [State.resetCommands]
@[simp] theorem resetCommands_frameSeen :
    s.resetCommands.frameSeen = s.frameSeen := by simp [State.resetCommands]
@[simp] theorem resetCommands_errCount :
    s.resetCommands.errCount = s.errCount := by simp [State.resetCommands]
@[simp] theorem resetCommands_lastTickTs :
    s.resetCommands.lastTickTs = s.lastTickTs := by simp [State.resetCommands]
@[simp] theorem resetCommands_lastValidTs :
    s.resetCommands.lastValidTs = s.lastValidTs := by simp [State.resetCommands]
@[simp] theorem resetCommands_scanAnchorTs :
    s.resetCommands.scanAnchorTs = s.scanAnchorTs := by simp [State.resetCommands]
@[simp] theorem resetCommands_seq : s.resetCommands.seq = s.seq := by simp [State.resetCommands]
@[simp] theorem resetCommands_lqw : s.resetCommands.lqw = s.lqw := by simp [State.resetCommands]
@[simp] theorem resetCommands_req : s.resetCommands.req = s.req := by simp [State.resetCommands]
@[simp] theorem resetCommands_env : s.resetCommands.env = s.env := by simp [State.resetCommands]

/-! ### `serve` -/

@[simp] theorem serve_cfg : s.serve.cfg = s.cfg := rfl
@[simp] theorem serve_ch : s.serve.ch = s.ch := rfl
@[simp] theorem serve_sw : s.serve.sw = s.sw := rfl
@[simp] theorem serve_syncProfile : s.serve.syncProfile = s.syncProfile := rfl
@[simp] theorem serve_nonce : s.serve.nonce = s.nonce := rfl
@[simp] theorem serve_hopIdx : s.serve.hopIdx = s.hopIdx := rfl
@[simp] theorem serve_linkState : s.serve.linkState = s.linkState := rfl
@[simp] theorem serve_profileIdx : s.serve.profileIdx = s.profileIdx := rfl
@[simp] theorem serve_freqCorr : s.serve.freqCorr = s.freqCorr := rfl
@[simp] theorem serve_phaseF : s.serve.phaseF = s.phaseF := rfl
@[simp] theorem serve_freqF : s.serve.freqF = s.freqF := rfl
@[simp] theorem serve_rssiF : s.serve.rssiF = s.rssiF := rfl
@[simp] theorem serve_snrF : s.serve.snrF = s.snrF := rfl
@[simp] theorem serve_lqCursor : s.serve.lqCursor = s.lqCursor := rfl
@[simp] theorem serve_frameSeen : s.serve.frameSeen = s.frameSeen := rfl
@[simp] theorem serve_errCount : s.serve.errCount = s.errCount := rfl
@[simp] theorem serve_lastTickTs : s.serve.lastTickTs = s.lastTickTs := rfl
@[simp] theorem serve_lastValidTs : s.serve.lastValidTs = s.lastValidTs := rfl
@[simp] theorem serve_scanAnchorTs : s.serve.scanAnchorTs = s.scanAnchorTs := rfl
@[simp] theorem serve_seq : s.serve.seq = s.seq := rfl
@[simp] theorem serve_lqw : s.serve.lqw = s.lqw := rfl
@[simp] theorem serve_req : s.serve.req = s.req.serve := rfl
@[simp] theorem serve_env : s.serve.env = s.env := rfl
@[simp] theorem serve_out : s.serve.out = s.out := rfl

/-! ### `idle` -/

@[simp] theorem idle_cfg : s.idle.cfg = s.cfg := rfl
@[simp] theorem idle_ch : s.idle.ch = s.ch := rfl
@[simp] theorem idle_sw : s.idle.sw = s.sw := rfl
@[simp] theorem idle_syncProfile : s.idle.syncProfile = s.syncProfile := rfl
@[simp] theorem idle_nonce : s.idle.nonce = s.nonce := rfl
@[simp] theorem idle_hopIdx : s.idle.hopIdx = s.hopIdx := rfl
@[simp] theorem idle_linkState : s.idle.linkState = s.linkState := rfl
@[simp] theorem idle_profileIdx : s.idle.profileIdx = s.profileIdx := rfl
@[simp] theorem idle_freqCorr : s.idle.freqCorr = s.freqCorr := rfl
@[simp] theorem idle_phaseF : s.idle.phaseF = s.phaseF := rfl
@[simp] theorem idle_freqF : s.idle.freqF = s.freqF := rfl
@[simp] theorem idle_rssiF : s.idle.rssiF = s.rssiF := rfl
@[simp] theorem idle_snrF : s.idle.snrF = s.snrF := rfl
@[simp] theorem idle_lqCursor : s.idle.lqCursor = s.lqCursor := rfl
@[simp] theorem idle_frameSeen : s.idle.frameSeen = s.frameSeen := rfl
@[simp] theorem idle_errCount : s.idle.errCount = s.errCount := rfl
@[simp] theorem idle_lastTickTs : s.idle.lastTickTs = s.lastTickTs := rfl
@[simp] theorem idle_lastValidTs : s.idle.lastValidTs = s.lastValidTs := rfl
@[simp] theorem idle_scanAnchorTs : s.idle.scanAnchorTs = s.scanAnchorTs := rfl
@[simp] theorem idle_seq : s.idle.seq = s.seq := rfl
@[simp] theorem idle_lqw : s.idle.lqw = s.lqw := rfl
@[simp] theorem idle_req : s.idle.req = s.req := rfl
@[simp] theorem idle_env : s.idle.env = s.env := rfl
@[simp] theorem idle_out : s.idle.out = .quiet := rfl

/-! ## Operations with a condition -/

/-! ### `hopAction` -/

@[simp] theorem hopAction_cfg (fe : BitVec 32) :
    (s.hopAction fe).cfg = s.cfg := by
  unfold State.hopAction; split <;> simp
@[simp] theorem hopAction_ch (fe : BitVec 32) :
    (s.hopAction fe).ch = s.ch := by
  unfold State.hopAction; split <;> simp
@[simp] theorem hopAction_sw (fe : BitVec 32) :
    (s.hopAction fe).sw = s.sw := by
  unfold State.hopAction; split <;> simp
@[simp] theorem hopAction_syncProfile (fe : BitVec 32) :
    (s.hopAction fe).syncProfile = s.syncProfile := by
  unfold State.hopAction; split <;> simp
@[simp] theorem hopAction_nonce (fe : BitVec 32) :
    (s.hopAction fe).nonce = s.nonce := by
  unfold State.hopAction; split <;> simp
@[simp] theorem hopAction_hopIdx (fe : BitVec 32) :
    (s.hopAction fe).hopIdx = if s.hopDue then BitVec.ofNat 8 ((s.hopIdx.toNat + 1) % s.cfg.hopN) else s.hopIdx := by
  unfold State.hopAction; split <;> simp
@[simp] theorem hopAction_linkState (fe : BitVec 32) :
    (s.hopAction fe).linkState = s.linkState := by
  unfold State.hopAction; split <;> simp
@[simp] theorem hopAction_profileIdx (fe : BitVec 32) :
    (s.hopAction fe).profileIdx = s.profileIdx := by
  unfold State.hopAction; split <;> simp
@[simp] theorem hopAction_freqCorr (fe : BitVec 32) :
    (s.hopAction fe).freqCorr = if s.hopDue then stepCorrection s.cfg s.freqCorr (filter s.freqF fe.toInt s.cfg.wFreq) else s.freqCorr := by
  unfold State.hopAction; split <;> simp
@[simp] theorem hopAction_phaseF (fe : BitVec 32) :
    (s.hopAction fe).phaseF = s.phaseF := by
  unfold State.hopAction; split <;> simp
@[simp] theorem hopAction_freqF (fe : BitVec 32) :
    (s.hopAction fe).freqF = if s.hopDue then filter s.freqF fe.toInt s.cfg.wFreq else s.freqF := by
  unfold State.hopAction; split <;> simp
@[simp] theorem hopAction_rssiF (fe : BitVec 32) :
    (s.hopAction fe).rssiF = s.rssiF := by
  unfold State.hopAction; split <;> simp
@[simp] theorem hopAction_snrF (fe : BitVec 32) :
    (s.hopAction fe).snrF = s.snrF := by
  unfold State.hopAction; split <;> simp
@[simp] theorem hopAction_lqCursor (fe : BitVec 32) :
    (s.hopAction fe).lqCursor = s.lqCursor := by
  unfold State.hopAction; split <;> simp
@[simp] theorem hopAction_frameSeen (fe : BitVec 32) :
    (s.hopAction fe).frameSeen = s.frameSeen := by
  unfold State.hopAction; split <;> simp
@[simp] theorem hopAction_errCount (fe : BitVec 32) :
    (s.hopAction fe).errCount = s.errCount := by
  unfold State.hopAction; split <;> simp
@[simp] theorem hopAction_lastTickTs (fe : BitVec 32) :
    (s.hopAction fe).lastTickTs = s.lastTickTs := by
  unfold State.hopAction; split <;> simp
@[simp] theorem hopAction_lastValidTs (fe : BitVec 32) :
    (s.hopAction fe).lastValidTs = s.lastValidTs := by
  unfold State.hopAction; split <;> simp
@[simp] theorem hopAction_scanAnchorTs (fe : BitVec 32) :
    (s.hopAction fe).scanAnchorTs = s.scanAnchorTs := by
  unfold State.hopAction; split <;> simp
@[simp] theorem hopAction_seq (fe : BitVec 32) :
    (s.hopAction fe).seq = s.seq := by
  unfold State.hopAction; split <;> simp
@[simp] theorem hopAction_lqw (fe : BitVec 32) :
    (s.hopAction fe).lqw = s.lqw := by
  unfold State.hopAction; split <;> simp
@[simp] theorem hopAction_req (fe : BitVec 32) :
    (s.hopAction fe).req = s.req := by
  unfold State.hopAction; split <;> simp
@[simp] theorem hopAction_env (fe : BitVec 32) :
    (s.hopAction fe).env = s.env := by
  unfold State.hopAction; split <;> simp

/-! ### `tlmAction` -/

@[simp] theorem tlmAction_cfg :
    s.tlmAction.cfg = s.cfg := by
  unfold State.tlmAction; split <;> simp
@[simp] theorem tlmAction_ch :
    s.tlmAction.ch = s.ch := by
  unfold State.tlmAction; split <;> simp
@[simp] theorem tlmAction_sw :
    s.tlmAction.sw = s.sw := by
  unfold State.tlmAction; split <;> simp
@[simp] theorem tlmAction_syncProfile :
    s.tlmAction.syncProfile = s.syncProfile := by
  unfold State.tlmAction; split <;> simp
@[simp] theorem tlmAction_nonce :
    s.tlmAction.nonce = s.nonce := by
  unfold State.tlmAction; split <;> simp
@[simp] theorem tlmAction_hopIdx :
    s.tlmAction.hopIdx = s.hopIdx := by
  unfold State.tlmAction; split <;> simp
@[simp] theorem tlmAction_linkState :
    s.tlmAction.linkState = s.linkState := by
  unfold State.tlmAction; split <;> simp
@[simp] theorem tlmAction_profileIdx :
    s.tlmAction.profileIdx = s.profileIdx := by
  unfold State.tlmAction; split <;> simp
@[simp] theorem tlmAction_freqCorr :
    s.tlmAction.freqCorr = s.freqCorr := by
  unfold State.tlmAction; split <;> simp
@[simp] theorem tlmAction_phaseF :
    s.tlmAction.phaseF = s.phaseF := by
  unfold State.tlmAction; split <;> simp
@[simp] theorem tlmAction_freqF :
    s.tlmAction.freqF = s.freqF := by
  unfold State.tlmAction; split <;> simp
@[simp] theorem tlmAction_rssiF :
    s.tlmAction.rssiF = s.rssiF := by
  unfold State.tlmAction; split <;> simp
@[simp] theorem tlmAction_snrF :
    s.tlmAction.snrF = s.snrF := by
  unfold State.tlmAction; split <;> simp
@[simp] theorem tlmAction_lqCursor :
    s.tlmAction.lqCursor = s.lqCursor := by
  unfold State.tlmAction; split <;> simp
@[simp] theorem tlmAction_frameSeen :
    s.tlmAction.frameSeen = if s.tlmDue then true else s.frameSeen := by
  unfold State.tlmAction; split <;> simp
@[simp] theorem tlmAction_errCount :
    s.tlmAction.errCount = s.errCount := by
  unfold State.tlmAction; split <;> simp
@[simp] theorem tlmAction_lastTickTs :
    s.tlmAction.lastTickTs = s.lastTickTs := by
  unfold State.tlmAction; split <;> simp
@[simp] theorem tlmAction_lastValidTs :
    s.tlmAction.lastValidTs = s.lastValidTs := by
  unfold State.tlmAction; split <;> simp
@[simp] theorem tlmAction_scanAnchorTs :
    s.tlmAction.scanAnchorTs = s.scanAnchorTs := by
  unfold State.tlmAction; split <;> simp
@[simp] theorem tlmAction_seq :
    s.tlmAction.seq = s.seq := by
  unfold State.tlmAction; split <;> simp
@[simp] theorem tlmAction_lqw :
    s.tlmAction.lqw = s.lqw := by
  unfold State.tlmAction; split <;> simp
@[simp] theorem tlmAction_req :
    s.tlmAction.req = s.req := by
  unfold State.tlmAction; split <;> simp
@[simp] theorem tlmAction_env :
    s.tlmAction.env = s.env := by
  unfold State.tlmAction; split <;> simp

/-! ### `checkTimeout` -/

@[simp] theorem checkTimeout_cfg (now : Time) :
    (s.checkTimeout now).cfg = s.cfg := by
  unfold State.checkTimeout; split <;> simp
@[simp] theorem checkTimeout_ch (now : Time) :
    (s.checkTimeout now).ch = s.ch := by
  unfold State.checkTimeout; split <;> simp
@[simp] theorem checkTimeout_sw (now : Time) :
    (s.checkTimeout now).sw = s.sw := by
  unfold State.checkTimeout; split <;> simp
@[simp] theorem checkTimeout_syncProfile (now : Time) :
    (s.checkTimeout now).syncProfile = s.syncProfile := by
  unfold State.checkTimeout; split <;> simp
@[simp] theorem checkTimeout_nonce (now : Time) :
    (s.checkTimeout now).nonce = s.nonce := by
  unfold State.checkTimeout; split <;> simp
@[simp] theorem checkTimeout_hopIdx (now : Time) :
    (s.checkTimeout now).hopIdx = if s.timedOut now then 0 else s.hopIdx := by
  unfold State.checkTimeout; split <;> simp
@[simp] theorem checkTimeout_linkState (now : Time) :
    (s.checkTimeout now).linkState = if s.timedOut now then .disconnected else s.linkState := by
  unfold State.checkTimeout; split <;> simp
@[simp] theorem checkTimeout_profileIdx (now : Time) :
    (s.checkTimeout now).profileIdx = s.profileIdx := by
  unfold State.checkTimeout; split <;> simp
@[simp] theorem checkTimeout_freqCorr (now : Time) :
    (s.checkTimeout now).freqCorr = if s.timedOut now then 0 else s.freqCorr := by
  unfold State.checkTimeout; split <;> simp
@[simp] theorem checkTimeout_phaseF (now : Time) :
    (s.checkTimeout now).phaseF = if s.timedOut now then 0 else s.phaseF := by
  unfold State.checkTimeout; split <;> simp
@[simp] theorem checkTimeout_freqF (now : Time) :
    (s.checkTimeout now).freqF = if s.timedOut now then 0 else s.freqF := by
  unfold State.checkTimeout; split <;> simp
@[simp] theorem checkTimeout_rssiF (now : Time) :
    (s.checkTimeout now).rssiF = if s.timedOut now then 0 else s.rssiF := by
  unfold State.checkTimeout; split <;> simp
@[simp] theorem checkTimeout_snrF (now : Time) :
    (s.checkTimeout now).snrF = if s.timedOut now then 0 else s.snrF := by
  unfold State.checkTimeout; split <;> simp
@[simp] theorem checkTimeout_lqCursor (now : Time) :
    (s.checkTimeout now).lqCursor = s.lqCursor := by
  unfold State.checkTimeout; split <;> simp
@[simp] theorem checkTimeout_frameSeen (now : Time) :
    (s.checkTimeout now).frameSeen = s.frameSeen := by
  unfold State.checkTimeout; split <;> simp
@[simp] theorem checkTimeout_errCount (now : Time) :
    (s.checkTimeout now).errCount = s.errCount := by
  unfold State.checkTimeout; split <;> simp
@[simp] theorem checkTimeout_lastTickTs (now : Time) :
    (s.checkTimeout now).lastTickTs = s.lastTickTs := by
  unfold State.checkTimeout; split <;> simp
@[simp] theorem checkTimeout_lastValidTs (now : Time) :
    (s.checkTimeout now).lastValidTs = s.lastValidTs := by
  unfold State.checkTimeout; split <;> simp
@[simp] theorem checkTimeout_scanAnchorTs (now : Time) :
    (s.checkTimeout now).scanAnchorTs = s.scanAnchorTs := by
  unfold State.checkTimeout; split <;> simp
@[simp] theorem checkTimeout_seq (now : Time) :
    (s.checkTimeout now).seq = s.seq := by
  unfold State.checkTimeout; split <;> simp
@[simp] theorem checkTimeout_lqw (now : Time) :
    (s.checkTimeout now).lqw = s.lqw := by
  unfold State.checkTimeout; split <;> simp
@[simp] theorem checkTimeout_req (now : Time) :
    (s.checkTimeout now).req = s.req := by
  unfold State.checkTimeout; split <;> simp
@[simp] theorem checkTimeout_env (now : Time) :
    (s.checkTimeout now).env = s.env := by
  unfold State.checkTimeout; split <;> simp

/-! ### `rateScan` -/

@[simp] theorem rateScan_cfg (now : Time) (en : Bool) :
    (s.rateScan now en).cfg = s.cfg := by
  unfold State.rateScan; split <;> simp
@[simp] theorem rateScan_ch (now : Time) (en : Bool) :
    (s.rateScan now en).ch = s.ch := by
  unfold State.rateScan; split <;> simp
@[simp] theorem rateScan_sw (now : Time) (en : Bool) :
    (s.rateScan now en).sw = s.sw := by
  unfold State.rateScan; split <;> simp
@[simp] theorem rateScan_syncProfile (now : Time) (en : Bool) :
    (s.rateScan now en).syncProfile = s.syncProfile := by
  unfold State.rateScan; split <;> simp
@[simp] theorem rateScan_nonce (now : Time) (en : Bool) :
    (s.rateScan now en).nonce = s.nonce := by
  unfold State.rateScan; split <;> simp
@[simp] theorem rateScan_hopIdx (now : Time) (en : Bool) :
    (s.rateScan now en).hopIdx = if s.scanDue now en then 0 else s.hopIdx := by
  unfold State.rateScan; split <;> simp
@[simp] theorem rateScan_linkState (now : Time) (en : Bool) :
    (s.rateScan now en).linkState = s.linkState := by
  unfold State.rateScan; split <;> simp
@[simp] theorem rateScan_profileIdx (now : Time) (en : Bool) :
    (s.rateScan now en).profileIdx = if s.scanDue now en then s.nextProfile else s.profileIdx := by
  unfold State.rateScan; split <;> simp
@[simp] theorem rateScan_freqCorr (now : Time) (en : Bool) :
    (s.rateScan now en).freqCorr = s.freqCorr := by
  unfold State.rateScan; split <;> simp
@[simp] theorem rateScan_phaseF (now : Time) (en : Bool) :
    (s.rateScan now en).phaseF = if s.scanDue now en then 0 else s.phaseF := by
  unfold State.rateScan; split <;> simp
@[simp] theorem rateScan_freqF (now : Time) (en : Bool) :
    (s.rateScan now en).freqF = if s.scanDue now en then 0 else s.freqF := by
  unfold State.rateScan; split <;> simp
@[simp] theorem rateScan_rssiF (now : Time) (en : Bool) :
    (s.rateScan now en).rssiF = if s.scanDue now en then 0 else s.rssiF := by
  unfold State.rateScan; split <;> simp
@[simp] theorem rateScan_snrF (now : Time) (en : Bool) :
    (s.rateScan now en).snrF = if s.scanDue now en then 0 else s.snrF := by
  unfold State.rateScan; split <;> simp
@[simp] theorem rateScan_lqCursor (now : Time) (en : Bool) :
    (s.rateScan now en).lqCursor = if s.scanDue now en then 0 else s.lqCursor := by
  unfold State.rateScan; split <;> simp
@[simp] theorem rateScan_frameSeen (now : Time) (en : Bool) :
    (s.rateScan now en).frameSeen = if s.scanDue now en then false else s.frameSeen := by
  unfold State.rateScan; split <;> simp
@[simp] theorem rateScan_errCount (now : Time) (en : Bool) :
    (s.rateScan now en).errCount = s.errCount := by
  unfold State.rateScan; split <;> simp
@[simp] theorem rateScan_lastTickTs (now : Time) (en : Bool) :
    (s.rateScan now en).lastTickTs = s.lastTickTs := by
  unfold State.rateScan; split <;> simp
@[simp] theorem rateScan_lastValidTs (now : Time) (en : Bool) :
    (s.rateScan now en).lastValidTs = s.lastValidTs := by
  unfold State.rateScan; split <;> simp
@[simp] theorem rateScan_scanAnchorTs (now : Time) (en : Bool) :
    (s.rateScan now en).scanAnchorTs = if s.scanDue now en then now else s.scanAnchorTs := by
  unfold State.rateScan; split <;> simp
@[simp] theorem rateScan_seq (now : Time) (en : Bool) :
    (s.rateScan now en).seq = s.seq := by
  unfold State.rateScan; split <;> simp
@[simp] theorem rateScan_lqw (now : Time) (en : Bool) :
    (s.rateScan now en).lqw = if s.scanDue now en then Vector.replicate 100 false else s.lqw := by
  unfold State.rateScan; split <;> simp
@[simp] theorem rateScan_req (now : Time) (en : Bool) :
    (s.rateScan now en).req = s.req := by
  unfold State.rateScan; split <;> simp
@[simp] theorem rateScan_env (now : Time) (en : Bool) :
    (s.rateScan now en).env = s.env := by
  unfold State.rateScan; split <;> simp

end Fields

end Sys2Proof.Machine
end

