-- ==== Sys2Proof/Laws/Ops.lean ====
section
/-! SUPPORT. What each shared operation with a condition can do, said once: the state it leaves, field by
field. -/

namespace Sys2Proof.Machine

/-- The decision of R187 to R190: the registers it may write, and when. -/
theorem syncTransition_eq (s : State) (h n : Byte) (t : Time) :
    s.syncTransition h n t = { s with
      linkState := if s.linkState = .disconnected then .tentative
        else if s.linkState = .tentative ∧ n = s.nonce ∧ h = s.hopIdx then .connected else s.linkState
      scanAnchorTs :=
        if s.linkState = .tentative ∧ n = s.nonce ∧ h = s.hopIdx then t else s.scanAnchorTs
      out := { s.out with cmds := s.out.cmds ++
        if s.linkState = .tentative ∧ n = s.nonce ∧ h = s.hopIdx then [.signalLinkUp] else [] } } := by
  rcases hl : s.linkState with _ | _ | _
  · simp [State.syncTransition, hl]
  · by_cases hp : n = s.nonce ∧ h = s.hopIdx
    · simp [State.syncTransition, hl, hp, State.predicts, State.enterConnected, State.emit]
    · have : s.predicts h n = false := by simpa [State.predicts] using hp
      simp [State.syncTransition, hl, hp, this, State.ext_iff]
  · simp [State.syncTransition, hl, State.ext_iff]

/-- `OnSync` (R187), field by field. -/
theorem onSync_eq (s : State) (h n p : Byte) (t : Time) :
    s.onSync h n p t = { s with
      linkState := if s.linkState = .disconnected then .tentative
        else if s.linkState = .tentative ∧ n = s.nonce ∧ h = s.hopIdx then .connected else s.linkState
      scanAnchorTs :=
        if s.linkState = .tentative ∧ n = s.nonce ∧ h = s.hopIdx then t else s.scanAnchorTs
      out := { s.out with cmds := s.out.cmds ++
        if s.linkState = .tentative ∧ n = s.nonce ∧ h = s.hopIdx then [.signalLinkUp] else [] }
      nonce := n
      hopIdx := BitVec.ofNat 8 (h.toNat % s.cfg.hopN)
      syncProfile := p } := by
  rw [State.onSync, syncTransition_eq]
  simp [State.loadSchedule, State.hopSetIndex]

/-- `EnterDisconnected` (R193), field by field. -/
theorem enterDisconnected_eq (s : State) :
    s.enterDisconnected = { s with
      linkState := .disconnected, phaseF := 0, freqF := 0, rssiF := 0, snrF := 0, freqCorr := 0, hopIdx := 0
      out := { s.out with cmds := s.out.cmds ++
        [.radioSetFrequencyCorrection 0, .radioSetFrequency (s.hopFrequency 0), .radioBeginReceive,
          .signalLinkDown] } } := by
  apply State.ext <;> simp
  simp [State.enterDisconnected, State.hopFrequency, State.seqAt]

/-- `SetProfile` (R222), field by field. -/
theorem setProfile_eq (s : State) (p : BitVec 8) (now : Time) :
    s.setProfile p now = { s with
      profileIdx := p, hopIdx := 0, lqw := Vector.replicate 100 false, lqCursor := 0, frameSeen := false
      phaseF := 0, freqF := 0, rssiF := 0, snrF := 0, scanAnchorTs := now
      out := { s.out with cmds := s.out.cmds ++
        [.radioConfigure (profileAt s.cfg p.toNat).mod (s.hopFrequency 0) s.cfg.syncWord,
          .timerSetInterval (profileAt s.cfg p.toNat).frameIntervalUs, .radioBeginReceive] } } := by
  apply State.ext <;> simp
  simp [State.setProfile]

/-- The hop action when its condition holds (R209). -/
theorem hopAction_pos (s : State) (fe : BitVec 32) (h : s.hopDue = true) :
    s.hopAction fe =
      let f := filter s.freqF fe.toInt s.cfg.wFreq
      let c := stepCorrection s.cfg s.freqCorr f
      let i := BitVec.ofNat 8 ((s.hopIdx.toNat + 1) % s.cfg.hopN)
      { s with
        freqF := f, freqCorr := c, hopIdx := i
        out := { s.out with cmds := s.out.cmds ++
          [.radioSetFrequencyCorrection c, .radioSetFrequency (s.hopFrequency i.toNat),
            .radioBeginReceive] } } := by
  apply State.ext <;>
    simp [State.hopAction, h, State.currentFrequency, State.hopFrequency, State.seqAt]

/-- The hop action when its condition fails (R209). -/
theorem hopAction_neg (s : State) (fe : BitVec 32) (h : s.hopDue = false) : s.hopAction fe = s := by
  simp [State.hopAction, h]

/-- The telemetry action (R210). -/
theorem tlmAction_pos (s : State) (h : s.tlmDue = true) :
    s.tlmAction = { s with
      frameSeen := true
      out := { s.out with cmds := s.out.cmds ++ [.radioTransmit s.tlmFrame] } } := by
  simp [State.tlmAction, h, State.emit]

theorem tlmAction_neg (s : State) (h : s.tlmDue = false) : s.tlmAction = s := by
  simp [State.tlmAction, h]

theorem checkTimeout_pos (s : State) (now : Time) (h : s.timedOut now = true) :
    s.checkTimeout now = s.enterDisconnected := by simp [State.checkTimeout, h]

theorem checkTimeout_neg (s : State) (now : Time) (h : s.timedOut now = false) :
    s.checkTimeout now = s := by simp [State.checkTimeout, h]

theorem rateScan_pos (s : State) (now : Time) (en : Bool) (h : s.scanDue now en = true) :
    s.rateScan now en = s.setProfile s.nextProfile now := by simp [State.rateScan, h]

theorem rateScan_neg (s : State) (now : Time) (en : Bool) (h : s.scanDue now en = false) :
    s.rateScan now en = s := by simp [State.rateScan, h]

/-- FRAME_RX of a rejected frame (R213). -/
theorem frameRx_error (s : State) (tRx : Time) (b : Frame) (rssi : BitVec 16) (snr : BitVec 8)
    (k : DecodeError) (h : decodeFrame s.cfg b = .error k) :
    s.frameRx tRx b rssi snr = (s.beginEvent .rx).raiseDecodeError k := by
  simp [State.frameRx, h]

/-- FRAME_RX of an accepted frame (R212). -/
theorem frameRx_ok (s : State) (tRx : Time) (b : Frame) (rssi : BitVec 16) (snr : BitVec 8)
    (f : ParsedFrame) (h : decodeFrame s.cfg b = .ok f) :
    s.frameRx tRx b rssi snr =
      ((((s.beginEvent .rx).acceptFrame tRx rssi snr).frameAction f tRx).phaseCorrect tRx).present
        (.ok f) := by
  simp [State.frameRx, h]

/-! ## The conditions, in the words of the rules -/

/-- The schedule test of R209 and R210. -/
theorem scheduled_iff (s : State) (h : BitVec 8) :
    s.scheduled h = true ↔ h ≠ 0 ∧ (s.nonce.toNat + 1) % h.toNat = 0 := by
  simp [State.scheduled, State.n1]

/-- A hop boundary (R209). -/
theorem hopDue_iff (s : State) :
    s.hopDue = true ↔ s.profile.hopInterval ≠ 0 ∧
      (s.nonce.toNat + 1) % s.profile.hopInterval.toNat = 0 ∧ s.linkState ≠ .disconnected := by
  simp only [State.hopDue, Bool.and_eq_true, scheduled_iff, bne_iff_ne, and_assoc]

/-- A reply is due (R210). -/
theorem tlmDue_iff (s : State) :
    s.tlmDue = true ↔ s.profile.tlmRatio ≠ 0 ∧
      (s.nonce.toNat + 1) % s.profile.tlmRatio.toNat = 0 ∧ s.linkState = .connected := by
  simp only [State.tlmDue, Bool.and_eq_true, scheduled_iff, beq_iff_eq, and_assoc]

/-- The timeout test (R192). -/
theorem timedOut_iff (s : State) (now : Time) :
    s.timedOut now = true ↔ s.linkState ≠ .disconnected ∧
      s.profile.timeoutUs.toNat +
        (if s.linkState = .tentative then s.cfg.tentativeGraceUs.toNat else 0) <
        (now - s.lastValidTs).toNat := by
  simp [State.timedOut, State.timeoutLimit, dt]

/-- The rate-scan test (R221). -/
theorem scanDue_iff (s : State) (now : Time) (en : Bool) :
    s.scanDue now en = true ↔ s.linkState = .disconnected ∧ en = true ∧
      s.profile.scanDwellUs.toNat < (now - s.scanAnchorTs).toNat := by
  simp [State.scanDue, dt, and_assoc]

/-- A 7-bit count: `LQ()` is the number of hits, at most 100 (R177). -/
theorem lq_eq_hits (s : State) : s.lq = s.hits := by
  simp [State.lq]

theorem hits_le (s : State) : s.hits ≤ 100 := by
  have := List.count_le_length (a := true) (l := s.lqw.toList)
  simpa [State.hits] using this

/-- An advanced index fits its 8 bits, because `HOP_N <= 256` (R146). -/
theorem hopAdvance_toNat (s : State) :
    s.hopAdvance.hopIdx.toNat = (s.hopIdx.toNat + 1) % s.cfg.hopN := by
  have h1 := s.cfg.valid.1.1
  have h2 := s.cfg.valid.1.2
  have h3 : (s.hopIdx.toNat + 1) % s.cfg.hopN < s.cfg.hopN := Nat.mod_lt _ h1
  rw [hopAdvance_hopIdx, BitVec.toNat_ofNat, Nat.mod_eq_of_lt]
  omega

/-- A loaded index is the carried byte reduced (R147). -/
theorem hopSetIndex_toNat (s : State) (i : Byte) :
    (s.hopSetIndex i).hopIdx.toNat = i.toNat % s.cfg.hopN := by
  have h3 : i.toNat % s.cfg.hopN ≤ i.toNat := Nat.mod_le _ _
  rw [hopSetIndex_hopIdx, BitVec.toNat_ofNat, Nat.mod_eq_of_lt]
  omega

/-- The next profile number fits its 8 bits, because `NPROF <= 256` (R220). -/
theorem nextProfile_toNat (s : State) :
    s.nextProfile.toNat = (s.profileIdx.toNat + 1) % s.cfg.nprof := by
  have h1 := s.cfg.valid.2.2.2.1.1
  have h2 := s.cfg.valid.2.2.2.1.2
  have h3 : (s.profileIdx.toNat + 1) % s.cfg.nprof < s.cfg.nprof := Nat.mod_lt _ h1
  rw [State.nextProfile, BitVec.toNat_ofNat, Nat.mod_eq_of_lt]
  omega

end Sys2Proof.Machine
end

