-- ==== Sys2Proof/Laws/Conditions.lean ====
section
/-! SUPPORT. Each condition an event tests, at the point where it tests it, in terms of the state before the
event. -/

namespace Sys2Proof.Machine

/-- The hop test of TICK, after the nonce advance (R209). -/
theorem tick_hopDue (s : State) (now : Time) :
    (((s.beginEvent .tick).closeSlot now).nonceAdvance).hopDue = true ↔ HopAt s (s.nonce + 1) := by
  rw [hopDue_iff]; simp [State.profile, HopAt]

/-- The telemetry test of TICK, after the hop action (R210, R211). -/
theorem tick_tlmDue (s : State) (now : Time) (fe : BitVec 32) :
    ((((s.beginEvent .tick).closeSlot now).nonceAdvance).hopAction fe).tlmDue = true ↔
      TlmAt s (s.nonce + 1) := by
  rw [tlmDue_iff]; simp [State.profile, TlmAt]

/-- The timeout test of POLL (R192). -/
theorem poll_timedOut (s : State) (now : Time) :
    (s.beginEvent .poll).timedOut now = true ↔ DropsAt s now := by
  rw [timedOut_iff]; exact Iff.rfl

/-- The scan test of POLL, in the link state the timeout leaves (R221, R223). -/
theorem poll_scanDue (s : State) (now : Time) (en : Bool) :
    ((s.beginEvent .poll).checkTimeout now).scanDue now en = true ↔ ScansAt s now en := by
  have hp : ((s.beginEvent .poll).checkTimeout now).profile = s.profile := by simp [State.profile]
  rw [scanDue_iff, checkTimeout_linkState, checkTimeout_scanAnchorTs, hp]
  simp only [poll_timedOut, beginEvent_linkState, beginEvent_scanAnchorTs]
  by_cases h : DropsAt s now
  · rw [if_pos h]
    exact ⟨fun x => ⟨Or.inr h, x.2⟩, fun x => ⟨rfl, x.2⟩⟩
  · rw [if_neg h]
    exact ⟨fun x => ⟨Or.inl x.1, x.2⟩, fun x => ⟨x.1.resolve_right h, x.2⟩⟩

/-- Header bytes are built from their two fields without overlap (R81). -/
theorem mkHeader_toNat (a : BitVec 6) (t : BitVec 2) : (mkHeader a t).toNat = 4 * a.toNat + t.toNat := by
  revert a t; decide

/-- The address field of a built header (R81). -/
theorem mkHeader_addr (a : BitVec 6) (t : BitVec 2) : (mkHeader a t).extractLsb' 2 6 = a := by
  revert a t; decide

/-- The type field of a built header (R81). -/
theorem mkHeader_type (a : BitVec 6) (t : BitVec 2) : (mkHeader a t).extractLsb' 0 2 = t := by
  revert a t; decide

/-- `DEVICE_ADDR` as a number (R125). -/
theorem deviceAddr_toNat (cfg : Config) : (deviceAddr cfg).toNat = cfg.uid.u5.toNat % 64 := by
  simp [deviceAddr]

/-- A built frame passes the CRC check (R89). -/
theorem mkFrame_crc (cfg : Config) (t : BitVec 2) (p0 p1 p2 p3 p4 p5 : Byte) :
    expectedCrc cfg (mkFrame cfg t p0 p1 p2 p3 p4 p5) = (mkFrame cfg t p0 p1 p2 p3 p4 p5).crc := rfl

/-- A built frame carries this device's address (R81, R125). -/
theorem mkFrame_addr (cfg : Config) (t : BitVec 2) (p0 p1 p2 p3 p4 p5 : Byte) :
    (mkFrame cfg t p0 p1 p2 p3 p4 p5).addr = deviceAddr cfg := mkHeader_addr _ _

/-- A built frame carries its type (R81). -/
theorem mkFrame_type (cfg : Config) (t : BitVec 2) (p0 p1 p2 p3 p4 p5 : Byte) :
    (mkFrame cfg t p0 p1 p2 p3 p4 p5).type = t := mkHeader_type _ _

/-- Decoding a built frame is unpacking its payload (R112). -/
theorem decodeFrame_mkFrame (cfg : Config) (t : BitVec 2) (p0 p1 p2 p3 p4 p5 : Byte) :
    decodeFrame cfg (mkFrame cfg t p0 p1 p2 p3 p4 p5) =
      unpack cfg (mkFrame cfg t p0 p1 p2 p3 p4 p5) := by
  rw [decodeFrame, if_neg (not_not.2 (mkFrame_crc ..)), if_neg (not_not.2 (mkFrame_addr ..))]

/-- Decoding a frame that passes both checks is unpacking its payload (R112). -/
theorem decodeFrame_addressed (cfg : Config) (b : Frame) (h : Addressed cfg b) :
    decodeFrame cfg b = unpack cfg b := by
  rw [decodeFrame, if_neg (not_not.2 (show expectedCrc cfg b = b.crc from h.1)), if_neg (not_not.2 h.2)]

/-- One inversion of a step: what was granted, and what the instruction then answered. -/
theorem step_next_cases (s t : State) (h : step s = .next t) :
    (∃ i, s.fetch = .ok i ∧ exec i s.arrive.serve = .next t) ∨
      (s.fetch = .error .idle ∧ t = s.arrive.idle) := by
  unfold step at h
  split at h
  · exact Or.inl ⟨_, ‹_›, h⟩
  · injection h with h
    exact Or.inr ⟨‹_›, h.symm⟩
  · cases h

/-- The port word of the lines decodes to the granted line's event, or is idle (R95, R245). -/
theorem fetch_cases (r : Requests) :
    (∃ now, r.rst = some now ∧ decodeEvent r.ports = .ok (.reset now)) ∨
    (∃ o, r.rst = none ∧ r.tick = some o ∧ decodeEvent r.ports = .ok (.tick o.now o.freqErr)) ∨
    (∃ o, r.rst = none ∧ r.tick = none ∧ r.rx = some o ∧
      decodeEvent r.ports = .ok (.frameRx o.tRx o.b o.rssi o.snr)) ∨
    (∃ o, r.rst = none ∧ r.tick = none ∧ r.rx = none ∧ r.poll = some o ∧
      decodeEvent r.ports = .ok (.poll o.now o.scanEnable)) ∨
    (r = .quiet ∧ decodeEvent r.ports = .error .idle) := by
  obtain ⟨a, b, c, d⟩ := r
  cases a <;> cases b <;> cases c <;> cases d <;>
    simp [Requests.ports, Requests.grant, grantVector, quietPorts, decodeEvent]

/-- Arrival changes only the lines and the environment's list. -/
theorem arrive_eq (s : State) :
    s.arrive = { s with req := s.req.triggerAll (s.env.headD []), env := s.env.tail } := by
  unfold State.arrive
  cases h : s.env <;> simp [Requests.triggerAll, State.ext_iff, h]

/-! ## What a step can do -/

/-- The instruction fetched is always one of the four events (R69, R95). -/
theorem fetch_event (s : State) (i : Instr) (h : s.fetch = .ok i) :
    (∃ n, i = .reset n) ∨ (∃ n f, i = .tick n f) ∨ (∃ a b c d, i = .frameRx a b c d) ∨
      ∃ a b, i = .poll a b := by
  unfold State.fetch at h
  rcases fetch_cases s.arrive.req with
      ⟨_, _, h'⟩ | ⟨_, _, _, h'⟩ | ⟨_, _, _, _, h'⟩ | ⟨_, _, _, _, _, h'⟩ | ⟨_, h'⟩ <;>
    rw [h'] at h <;> cases h <;> simp

/-- All a step can be: one of the four events, or idling, on the state `u` that differs from `s` in the
request lines and the future triggers alone. -/
theorem step_inversion (s t : State) (h : step s = .next t) :
    ∃ (u : State) (r : Requests) (e : List (List Request)), u = { s with req := r, env := e } ∧
      ((∃ n, t = u.resetEvent n) ∨ (∃ n f, t = u.tick n f) ∨ (∃ a b c d, t = u.frameRx a b c d) ∨
        (∃ a b, t = u.poll a b) ∨ t = u.idle) := by
  have e := arrive_eq s
  rcases step_next_cases s t h with ⟨i, hf, hx⟩ | ⟨hf, rfl⟩
  · refine ⟨s.arrive.serve, _, _, by rw [State.serve, e], ?_⟩
    rcases fetch_event s i hf with
      ⟨n, rfl⟩ | ⟨n, f, rfl⟩ | ⟨a, b, c, d, rfl⟩ | ⟨a, b, rfl⟩ <;> cases hx
    · exact .inl ⟨_, rfl⟩
    · exact .inr (.inl ⟨_, _, rfl⟩)
    · exact .inr (.inr (.inl ⟨_, _, _, _, rfl⟩))
    · exact .inr (.inr (.inr (.inl ⟨_, _, rfl⟩)))
  · exact ⟨s.arrive, _, _, e, by simp⟩

/-- Each event acknowledges its own line (R46). -/
theorem resetEvent_ack (s : State) (now : Time) : (s.resetEvent now).out.ack = some .rst := rfl

theorem tick_ack (s : State) (now : Time) (fe : BitVec 32) :
    (s.tick now fe).out.ack = some .tick := by
  unfold State.tick State.tlmAction State.hopAction
  split <;> split <;> rfl

theorem frameRx_ack (s : State) (tRx : Time) (b : Frame) (rssi : BitVec 16) (snr : BitVec 8) :
    (s.frameRx tRx b rssi snr).out.ack = some .rx := by
  cases h : decodeFrame s.cfg b with
  | error k => rw [frameRx_error _ _ _ _ _ _ h]; rfl
  | ok f =>
    rw [frameRx_ok _ _ _ _ _ _ h]
    cases f <;> simp [State.frameAction, onSync_eq]

theorem poll_ack (s : State) (now : Time) (en : Bool) : (s.poll now en).out.ack = some .poll := by
  unfold State.poll State.rateScan State.checkTimeout
  split <;> split <;> simp [setProfile_eq, enterDisconnected_eq]

end Sys2Proof.Machine
end

