-- ==== Sys2Proof/Laws/PerInstr.lean ====
section
/-! SUPPORT. A family stated per instruction: the word of an instruction carries the fixed bits of its row of
`opcode_table.json`. -/

namespace Sys2Proof.Laws

/-- The fixed bits of an instruction's row stand in its word: the frame type of R82, the grant vector of R95,
and the three zero bytes of ENC_TLM (R88). -/
def RowBits.Statement (i : Instr) : Prop :=
  ∀ cfg : Config,
    match i, encode cfg i with
    | .rcData _ _ _ _, .frameIn b => b.type = 0
    | .switchData _ _ _ _ _ _, .frameIn b => b.type = 1
    | .sync _ _ _, .frameIn b => b.type = 2
    | .telemetry _ _ _ _ _ _, .frameIn b => b.type = 3
    | .encSync _ _ _, .frameOut b => b.type = 2
    | .encTlm, .frameOut b => b.type = 3 ∧ b.p3 = 0 ∧ b.p4 = 0 ∧ b.p5 = 0
    | .tick _ _, .event w => w.grant = 0b0001
    | .frameRx _ _ _ _, .event w => w.grant = 0b0010
    | .poll _ _, .event w => w.grant = 0b0100
    | .reset _, .event w => w.grant = 0b1000
    | _, _ => False

theorem RowBits.rcData (ch0 ch1 ch2 ch3 : BitVec 11) :
    RowBits.Statement (.rcData ch0 ch1 ch2 ch3) := by
  intro cfg
  simp only [encode]
  cases cfg.rcLayout <;> exact Machine.mkFrame_type ..

theorem RowBits.switchData (sw0 sw1 sw2 sw3 : BitVec 3) (hop nonce : Byte) :
    RowBits.Statement (.switchData sw0 sw1 sw2 sw3 hop nonce) :=
  fun _ => Machine.mkFrame_type ..

theorem RowBits.sync (hop nonce profile : Byte) : RowBits.Statement (.sync hop nonce profile) :=
  fun _ => Machine.mkFrame_type ..

theorem RowBits.telemetry (p0 p1 p2 p3 p4 p5 : Byte) :
    RowBits.Statement (.telemetry p0 p1 p2 p3 p4 p5) :=
  fun _ => Machine.mkFrame_type ..

theorem RowBits.encSync (hop nonce prof : Byte) : RowBits.Statement (.encSync hop nonce prof) :=
  fun _ => Machine.mkFrame_type ..

theorem RowBits.encTlm : RowBits.Statement .encTlm :=
  fun _ => ⟨Machine.mkFrame_type .., rfl, rfl, rfl⟩

theorem RowBits.tick (now : Time) (freqErr : BitVec 32) : RowBits.Statement (.tick now freqErr) :=
  fun _ => rfl

theorem RowBits.frameRx (tRx : Time) (b : Frame) (rssi : BitVec 16) (snr : BitVec 8) :
    RowBits.Statement (.frameRx tRx b rssi snr) :=
  fun _ => rfl

theorem RowBits.poll (now : Time) (scanEnable : Bool) : RowBits.Statement (.poll now scanEnable) :=
  fun _ => rfl

theorem RowBits.reset (now : Time) : RowBits.Statement (.reset now) := fun _ => rfl

end Sys2Proof.Laws
end

