-- ==== Sys2Proof/Tests/Slice0.lean ====
section
/-! SUPPORT. Tests whose expected values come from `95_test_vectors.md` and `30_encoding.md`, and a named
witness for the hypotheses of every statement. -/

namespace Sys2Proof.Tests

open Sys2Proof.Machine

-- One theorem at a time: each evaluation waits for the declarations before it.
set_option Elab.async false

/-! ## Helpers -/

/-- A field of the next state, if there is one. -/
def after {α : Type} (o : Host.Outcome State Fault Refusal) (f : State → α) : Option α :=
  match o with
  | .next t => some (f t)
  | _ => none

/-- REFCFG with layout L10 (`95_test_vectors.md` 2.2). -/
def refL10 : Config := ⟨{ refParams with rcLayout := .L10 }, refParams_valid⟩

/-- A state of the given link, nonce and hop index under REFCFG. -/
def st (l : LinkState) (nonce hop : Byte) : State :=
  { State.reset with linkState := l, nonce := nonce, hopIdx := hop }

/-- `s` with one request on its lines. -/
def asking (s : State) (r : Requests) : State := { s with req := r }

def askTick : Requests := { Requests.quiet with tick := some ⟨5000, 0⟩ }
def askPoll : Requests := { Requests.quiet with poll := some ⟨1000001, true⟩ }
def askRst : Requests := { Requests.quiet with rst := some 7 }
def askRx (b : Frame) : Requests := { Requests.quiet with rx := some ⟨7500, b, 0, 0⟩ }

def rcFrame : Frame := ⟨0x18, 0x10, 0x20, 0x30, 0x40, 0xE0, 0x00, 0x09⟩
def swFrame : Frame := ⟨0x19, 0xAE, 0xD0, 0x02, 0x05, 0x02, 0x05, 0x92⟩
def syncFrame : Frame := ⟨0x1A, 0x02, 0x05, 0x00, 0x04, 0x05, 0x06, 0x21⟩
def tlmFrame : Frame := ⟨0x1B, 0x09, 0x08, 0x07, 0x06, 0x05, 0x04, 0xBC⟩
def badFrame : Frame := ⟨0x18, 0x10, 0x20, 0x30, 0x40, 0xE0, 0x00, 0x08⟩

/-! ## WellFormed: each check refuses an ill-formed instruction (R91) -/

theorem test_wf_ch0 : WellFormed refL10 (.rcData 1 2 4 6) = false := by decide +kernel
theorem test_wf_ch1 : WellFormed refL10 (.rcData 2 3 4 6) = false := by decide +kernel
theorem test_wf_ch2 : WellFormed refL10 (.rcData 2 2 5 6) = false := by decide +kernel
theorem test_wf_ch3 : WellFormed refL10 (.rcData 2 2 4 2047) = false := by decide +kernel
theorem test_wf_L11_takes_odd : WellFormed refcfg (.rcData 1 3 5 2047) = true := by decide +kernel

/-! ## Decoding the spec's words (`95_test_vectors.md` 2.2 to 2.4, `30_encoding.md` R95) -/

theorem test_dec_rc : decode refcfg (.frameIn rcFrame) = .ok (.rcData 135 256 384 512) := by decide +kernel
theorem test_dec_rc_fields :
    decode refcfg (.frameIn ⟨0x18, 0x00, 0x00, 0x80, 0xFF, 0x04, 0x70, 0x7A⟩) =
      .ok (.rcData 0 1 1024 2047) := by decide +kernel
theorem test_dec_rc_straddle :
    decode refcfg (.frameIn ⟨0x18, 0x00, 0x00, 0x00, 0x00, 0x29, 0xC0, 0xBE⟩) =
      .ok (.rcData 1 2 3 4) := by decide +kernel
theorem test_dec_rc_L10 :
    decode refL10 (.frameIn ⟨0x18, 0x00, 0x00, 0x00, 0x00, 0x1B, 0xFF, 0x64⟩) =
      .ok (.rcData 0 2 4 6) := by decide +kernel
theorem test_dec_sw :
    decode refcfg (.frameIn ⟨0x19, 0x29, 0xC0, 0x07, 0xC8, 0x07, 0xC8, 0xA1⟩) =
      .ok (.switchData 1 2 3 4 7 200) := by decide +kernel
theorem test_dec_sync :
    decode refcfg (.frameIn ⟨0x1A, 0x0A, 0x00, 0x07, 0x04, 0x05, 0x06, 0x61⟩) =
      .ok (.sync 10 0 7) := by decide +kernel
theorem test_dec_tlm : decode refcfg (.frameIn tlmFrame) = .ok (.telemetry 9 8 7 6 5 4) := by decide +kernel
theorem test_dec_encSync :
    decode refcfg (.frameOut ⟨0x1A, 0x02, 0x05, 0x00, 0x04, 0x05, 0x06, 0x21⟩) =
      .ok (.encSync 2 5 0) := by decide +kernel
theorem test_dec_encTlm :
    decode refcfg (.frameOut ⟨0x1B, 0x38, 0x00, 0x64, 0x00, 0x00, 0x00, 0x12⟩) = .ok .encTlm := by decide +kernel
theorem test_dec_tick :
    decode refcfg (.event { quietPorts 0b0001 with now := 20000, freqErr := 120 }) =
      .ok (.tick 20000 120) := by decide +kernel
theorem test_dec_rx :
    decode refcfg (.event { quietPorts 0b0010 with tRx := 7, b := rcFrame, rssi := 3, snr := 4 }) =
      .ok (.frameRx 7 rcFrame 3 4) := by decide +kernel
theorem test_dec_poll :
    decode refcfg (.event { quietPorts 0b0100 with now := 9, scanEnable := true }) =
      .ok (.poll 9 true) := by decide +kernel
theorem test_dec_reset :
    decode refcfg (.event { quietPorts 0b1000 with now := 9 }) = .ok (.reset 9) := by decide +kernel

/-- 2.3, X1, X5, X6, X8, X9, X12: the rejections and their priority. -/
theorem test_dec_rejects :
    [badFrame, ⟨0x14, 0x10, 0x20, 0x30, 0x40, 0xE0, 0x00, 0x8A⟩,
      ⟨0x1C, 0x10, 0x20, 0x30, 0x40, 0xE0, 0x00, 0x35⟩,
      ⟨0x19, 0xAE, 0xD0, 0x02, 0x05, 0x02, 0x04, 0x99⟩,
      ⟨0x1D, 0xAE, 0xD0, 0x02, 0x05, 0x03, 0x05, 0xB2⟩,
      ⟨0x1A, 0x02, 0x05, 0x00, 0x05, 0x05, 0x06, 0x06⟩].map (decodeFrame refcfg) =
    [.error .crcMismatch, .error .addressMismatch, .error .crcMismatch, .error .redundancyMismatch,
      .error .addressMismatch, .error .identityMismatch] := by decide +kernel

/-- 2.1: the checksum of the nine ASCII digits, and of all ones. -/
theorem test_crc :
    crc8 [0x31, 0x32, 0x33, 0x34, 0x35, 0x36, 0x37, 0x38, 0x39] = 0xF4 ∧
      crc8 [0xFF, 0xFF, 0xFF, 0xFF, 0xFF, 0xFF, 0xFF] = 0x0C := by decide +kernel

/-- 1.4: `WRONGADDR` of the RC_DATA frame. -/
theorem test_wrongAddr :
    wrongAddr refcfg rcFrame = ⟨0x1C, 0x10, 0x20, 0x30, 0x40, 0xE0, 0x00, 0x34⟩ := by decide +kernel

/-- 2.5: the generated sequence of `FF FF FF FF FF FF`. -/
theorem test_hop_ff :
    hopGenerate ⟨0xFF, 0xFF, 0xFF, 0xFF, 0xFF, 0xFF⟩ 8 = [6, 5, 4, 0, 1, 2, 7, 3] := by decide +kernel

/-! ## Table words -/

theorem test_word_rc : decodeTableWord 64 0x1810203040E00009 = some (.rcData 135 256 384 512) := by decide +kernel
theorem test_word_rc_pattern : decodeTableWord 64 0 = some (.rcData 0 0 0 0) := by decide +kernel
theorem test_word_sync_pattern :
    decodeTableWord 64 0x0200000000000000 = some (.sync 0 0 0) := by decide +kernel
theorem test_word_badCrc : decodeTableWord 64 0x1810203040E00008 = none := by decide +kernel
theorem test_word_events :
    [1, 2, 4, 8, 0, 3].map (decodeTableWord 8) =
      [some (.tick 0 0), some (.frameRx 0 ⟨0, 0, 0, 0, 0, 0, 0, 0⟩ 0 0), some (.poll 0 false),
        some (.reset 0), none, none] := by decide +kernel
theorem test_fetchWord_frame :
    after (step (State.reset.withFetchWord 64 0x1810203040E00009)) (fun t => (t.ch, t.out.rx)) =
      some (⟨135, 256, 384, 512⟩, some (.ok (.rcData 135 256 384 512))) := by decide +kernel
theorem test_fetchWord_tick :
    after (step (State.reset.withFetchWord 8 1)) (fun t => (t.nonce, t.out.ack)) =
      some (1, some .tick) := by decide +kernel

/-! ## One step of each instruction -/

/-- R215. -/
theorem test_rcData :
    after (exec (.rcData 1 2 3 4) State.reset) (fun t => (t.ch, t.out.cmds.getLast?)) =
      some (⟨1, 2, 3, 4⟩, some .serialRcValid) := by decide +kernel

/-- R216; the carried bytes go nowhere. -/
theorem test_switchData :
    after (exec (.switchData 5 3 5 6 3 8) (st .connected 1 2)) (fun t => (t.sw, t.nonce, t.hopIdx)) =
      some (⟨5, 3, 5, 6⟩, 1, 2) := by decide +kernel

/-- 2.11, F2. -/
theorem test_sync_connects :
    after (exec (.sync 2 5 0) (st .tentative 5 2)) (fun t => (t.linkState, t.out.cmds.getLast?)) =
      some (.connected, some .signalLinkUp) := by decide +kernel

/-- 2.11, F6: the raw hop byte is compared, the reduced one stored. -/
theorem test_sync_raw :
    after (exec (.sync 10 0 7) (st .tentative 0 2))
      (fun t => (t.linkState, t.nonce, t.hopIdx, t.syncProfile)) = some (.tentative, 0, 2, 7) := by decide +kernel

/-- R218. -/
theorem test_telemetry : after (exec (.telemetry 1 2 3 4 5 6) State.reset) id = some State.reset := by
  decide +kernel

/-- 2.4. -/
theorem test_encSync :
    after (exec (.encSync 0 0 0) State.reset) (fun t => t.out.enc) =
      some (some ⟨0x1A, 0x00, 0x00, 0x00, 0x04, 0x05, 0x06, 0xD2⟩) := by decide +kernel

/-- 2.4, third row: a full window, the low 8 bits of -200. -/
theorem test_encTlm :
    after (exec .encTlm
        { State.reset with rssiF := BitVec.ofInt 32 (-200), lqw := Vector.replicate 100 true })
      (fun t => t.out.enc) = some (some ⟨0x1B, 0x38, 0x00, 0x64, 0x00, 0x00, 0x00, 0x12⟩) := by decide +kernel

/-- 2.12, T4 with two hits in the window. -/
theorem test_tick_hop_and_reply :
    after (exec (.tick 40000 (BitVec.ofInt 32 (-500)))
        { st .connected 6 2 with
          frameSeen := true, rssiF := BitVec.ofInt 32 (-47), snrF := 5, freqF := 30, freqCorr := 61
          lqw := ((Vector.replicate 100 false).set 1 true).set 6 true, lqCursor := 7 })
      (fun t => (t.out.cmds, t.nonce, t.hopIdx, t.freqF.toInt, t.lq, t.frameSeen)) =
    some ([.radioSetFrequencyCorrection 0, .radioSetFrequency 917000000, .radioBeginReceive,
        .radioTransmit ⟨0x1B, 0xD1, 0x05, 0x03, 0x00, 0x00, 0x00, 0xFF⟩], 7, 3, -102, 3, true) := by decide +kernel

/-- 2.12, T1: no hop in Disconnected. -/
theorem test_tick_disconnected :
    after (exec (.tick 15000 999) (st .disconnected 2 0)) (fun t => (t.out.cmds, t.nonce, t.freqF)) =
      some ([], 3, 0) := by decide +kernel

/-- Program P1, the frame at 37500. -/
theorem test_frameRx :
    after (exec (.frameRx 37500 rcFrame (BitVec.ofInt 16 (-82)) 10)
        { st .connected 6 2 with
          phaseF := 25, lastTickTs := 35000, rssiF := BitVec.ofInt 32 (-36), snrF := 4 })
      (fun t => (t.out.cmds, t.phaseF, t.rssiF.toInt, t.snrF, t.result)) =
    some ([.serialRcValid, .timerPhaseShift 9], 19, -47, 5, some 0) := by decide +kernel

/-- 2.3, X7. -/
theorem test_frameRx_rejects :
    after (exec (.frameRx 7 ⟨0x19, 0xAE, 0xD0, 0x02, 0x05, 0x03, 0x05, 0x87⟩ 1 1) State.reset)
      (fun t => (t.errCount, t.result, t.out.cmds, t.frameSeen)) = some (1, some 3, [], false) := by decide +kernel

/-- 2.13, V-POLL-3: timeout and scan in one POLL. -/
theorem test_poll_both :
    after (exec (.poll 1012501 true)
        { st .connected 2 0 with lastValidTs := 12500, scanAnchorTs := 12500 })
      (fun t => (t.out.cmds, t.linkState, t.profileIdx, t.nonce)) =
    some ([.radioSetFrequencyCorrection 0, .radioSetFrequency 915000000, .radioBeginReceive,
        .signalLinkDown, .radioConfigure ⟨1⟩ 915000000 ⟨0⟩, .timerSetInterval 10000, .radioBeginReceive],
      .disconnected, 1, 2) := by decide +kernel

/-- 2.11: the Tentative limit is the timeout and the grace, exactly. -/
theorem test_poll_boundary :
    [153000, 153001].map (fun now => after
        (exec (.poll now true) { st .tentative 0 0 with lastValidTs := 3000, scanAnchorTs := 1000 })
        (fun t => t.linkState)) = [some .tentative, some .disconnected] := by decide +kernel

/-- 2.14. -/
theorem test_reset :
    after (exec (.reset 123456) (st .connected 9 3))
      (fun t => (t.linkState, t.nonce, t.hopIdx, t.lastTickTs, t.out)) =
    some (.disconnected, 0, 0, 123456, State.reset.out) := by decide +kernel

/-! ## Witnesses: concrete states and operands that meet the hypotheses of each statement -/

/-- A state of a running link that meets the invariant. -/
def live : State := { st .connected 6 7 with freqCorr := 100000, freqF := 5, profileIdx := 2 }

theorem test_wit_live_inv : live.Inv where
  hop := by decide
  profile := by decide
  freqLow := by decide
  freqHigh := by decide
  perm := by decide +kernel
  neutral := by decide

/-- `EveryStepKeepsTheInvariant`, `RunsStayInTheInvariant`: `live`, one step on. -/
theorem test_wit_inv_step : ∃ t, live.Inv ∧ step (asking live askTick) = .next t ∧
    Reaches live (asking live askTick) :=
  ⟨_, test_wit_live_inv, rfl, .trigger .start askTick []⟩

/-- `DecodeInvertsEncode`, both layouts at the top of the range. -/
theorem test_wit_wellFormed :
    WellFormed refL10 (.rcData 0 2 1024 2046) = true ∧
      WellFormed refcfg (.rcData 0 1 1024 2047) = true := by decide

/-- `AcceptedSyncAndTelemetryReencode`, both types. -/
theorem test_wit_reencode :
    (decode refcfg (.frameIn syncFrame) = .ok (.sync 2 5 0) ∧ syncFrame.type = 2) ∧
      (decode refcfg (.frameIn tlmFrame) = .ok (.telemetry 9 8 7 6 5 4) ∧ tlmFrame.type = 3) := by
  decide +kernel

/-- `DecodeErrorsExactlyAsListed`: a frame for each left side that holds. -/
theorem test_wit_errors :
    Addressed refcfg ⟨0x19, 0xAE, 0xD0, 0x02, 0x05, 0x03, 0x05, 0x87⟩ ∧
      Addressed refcfg ⟨0x1A, 0x02, 0x05, 0x00, 0x04, 0x05, 0x07, 0x1A⟩ := by decide +kernel

/-- `CrcDetectsBurstErrors`: a passing frame, a burst at either end of the 56 bits, one cut at the top. -/
theorem test_wit_burst :
    decodeFrame refcfg (frameOfBits 0x1810203040E000 0x09) ≠ .error .crcMismatch ∧
      (0x01 : Byte).setWidth 56 <<< (0 : Nat) ≠ 0 ∧ (0xFF : Byte).setWidth 56 <<< (48 : Nat) ≠ 0 ∧
      (0x81 : Byte).setWidth 56 <<< (55 : Nat) ≠ 0 ∧ (0x80 : Byte) ≠ 0 := by decide +kernel

/-- `RcDataL11ChannelValues`, `RcDataL10ChannelValues`. -/
theorem test_wit_rc :
    (Addressed refcfg rcFrame ∧ rcFrame.type = 0 ∧ refcfg.rcLayout = .L11) ∧
      (Addressed refL10 rcFrame ∧ refL10.rcLayout = .L10) := by decide +kernel

/-- `SwitchDataValues`: both branches. -/
theorem test_wit_switch :
    (Addressed refcfg swFrame ∧ swFrame.type = 1 ∧ swFrame.p2 = swFrame.p4 ∧ swFrame.p3 = swFrame.p5) ∧
      Addressed refcfg ⟨0x19, 0xAE, 0xD0, 0x02, 0x05, 0x03, 0x05, 0x87⟩ := by decide +kernel

/-- `SyncAndTelemetryValues`: a SYNC frame of this device, one with a foreign suffix, a TELEMETRY frame. -/
theorem test_wit_syncTlm :
    (Addressed refcfg syncFrame ∧ syncFrame.type = 2) ∧
      Addressed refcfg ⟨0x1A, 0x02, 0x05, 0x00, 0x04, 0x05, 0x07, 0x1A⟩ ∧
      (Addressed refcfg tlmFrame ∧ tlmFrame.type = 3) := by decide +kernel

/-- `UnusedBitsDoNotReachTheResult`, its three clauses, each with another CRC byte. -/
theorem test_wit_unused :
    (Addressed refL10 rcFrame ∧ Addressed refL10 { rcFrame with p5 := 0xFF, crc := 0xB6 }) ∧
    (Addressed refcfg { rcFrame with p5 := 0x0F, crc := 0xDC } ∧
      (0x0F : Byte).toNat / 16 = rcFrame.p5.toNat / 16) ∧
    (Addressed refcfg swFrame ∧ Addressed refcfg { swFrame with p1 := 0xDF, crc := 0x62 } ∧
      (0xDF : Byte).toNat / 16 = swFrame.p1.toNat / 16) := by decide +kernel

/-- `SyncMovesTheLinkAndLoadsTheSchedule`: the two mismatches of 2.11 F3 and F4 beside F1 and F5. -/
theorem test_wit_sync :
    [exec (.sync 1 0 0) (st .disconnected 1 0), exec (.sync 2 5 0) (st .tentative 6 2),
      exec (.sync 2 5 0) (st .tentative 5 3), exec (.sync 3 9 2) (st .connected 4 1)].map
        (fun o => after o (fun t => (t.linkState, t.nonce, t.hopIdx))) =
      [some (.tentative, 0, 1), some (.tentative, 5, 2), some (.tentative, 5, 2),
        some (.connected, 9, 3)] := by decide +kernel

/-- `InboundTelemetryIsInert`, `RejectedFrameOnlyCounts` (a frame for each kind), `AcceptedFrameRegisters`
(a frame for each type), `AcceptedFrameRunsItsInstruction`, `OnlySyncFramesMoveTheLink`. -/
theorem test_wit_frames :
    decodeFrame live.cfg tlmFrame = .ok (.telemetry 9 8 7 6 5 4) ∧
    decodeFrame live.cfg rcFrame = .ok (.rcData 135 256 384 512) ∧
    decodeFrame live.cfg swFrame = .ok (.switchData 5 3 5 5 2 5) ∧
    decodeFrame live.cfg syncFrame = .ok (.sync 2 5 0) ∧
    decodeFrame live.cfg badFrame = .error .crcMismatch ∧
    decodeFrame live.cfg ⟨0x1C, 0x10, 0x20, 0x30, 0x40, 0xE0, 0x00, 0x34⟩ = .error .addressMismatch ∧
    decodeFrame live.cfg ⟨0x19, 0xAE, 0xD0, 0x02, 0x05, 0x03, 0x05, 0x87⟩ =
      .error .redundancyMismatch ∧
    decodeFrame live.cfg ⟨0x1A, 0x02, 0x05, 0x00, 0x04, 0x05, 0x07, 0x1A⟩ =
      .error .identityMismatch := by decide +kernel

/-- `OnlySyncFramesMoveTheLink`: both moves happen. -/
theorem test_wit_onlySync :
    [st .disconnected 5 2, st .tentative 5 2].map
        (fun s => after (exec (.frameRx 7 syncFrame 0 0) s) (fun t => t.linkState)) =
      [some .tentative, some .connected] := by decide +kernel

/-- `TelemetryPayloadIsNotObservable`: two frames. -/
theorem test_wit_payload :
    (Addressed refcfg tlmFrame ∧ tlmFrame.type = 3) ∧
      Addressed refcfg ⟨0x1B, 0, 0, 0, 0, 0, 0, 0xB9⟩ := by decide +kernel

/-- `TickRegisters`, `TickCommands`, `TickGatedByLinkState`: the schedule tests hold and fail, at 256 too. -/
theorem test_wit_tick :
    HopAt (st .connected 0 0) 255 ∧ TlmAt (st .connected 0 0) 255 ∧
      HopAt (st .tentative 0 0) 3 ∧ ¬ TlmAt (st .tentative 0 0) 7 ∧ ¬ HopAt (st .disconnected 0 0) 3 := by
  decide +kernel

/-- `DividingIntervalsRecurAcrossTheWrap`: the smallest and the largest interval, at a boundary. -/
theorem test_wit_dividing :
    ((1 : BitVec 8) ≠ 0 ∧ (1 : BitVec 8).toNat ∣ 256 ∧ (128 : BitVec 8).toNat ∣ 256) ∧
      (st .connected 255 0).scheduled 128 = true := by decide

/-- `PollRegisters`, `PollCommands`: the limits of 2.11 and 2.13 on both sides. -/
theorem test_wit_poll :
    ¬ DropsAt (st .connected 0 0) 100000 ∧ DropsAt (st .connected 0 0) 100001 ∧
      ¬ ScansAt (st .disconnected 0 0) 1000000 true ∧ ScansAt (st .disconnected 0 0) 1000001 true ∧
      ¬ ScansAt (st .disconnected 0 0) 1000001 false ∧ ScansAt (st .connected 0 0) 1000001 true := by
  decide +kernel

/-- `ResetForgetsThePast`, `ResetStateIsTheResetEventAtZero`. -/
theorem test_wit_reset :
    live.cfg = State.reset.cfg ∧ live ≠ State.reset ∧
      (live.cfg = refcfg ∧ live.req = .quiet ∧ live.env = []) := by decide +kernel

/-- `StepRunsTheGrantedInstruction`: a decoded event and the idle word. -/
theorem test_wit_step :
    decode live.cfg (.event (asking live askTick).arrive.req.ports) = .ok (.tick 5000 0) ∧
      decode live.cfg (.event live.arrive.req.ports) = .error (.grant .idle) := by decide +kernel

/-- `ArbiterGrantsByPriority`: each clause, with the lower lines asserted too where the clause allows it. -/
theorem test_wit_arbiter :
    [(⟨some 1, some ⟨2, 3⟩, some ⟨4, rcFrame, 5, 6⟩, some ⟨7, true⟩⟩ : Requests),
      ⟨none, some ⟨2, 3⟩, some ⟨4, rcFrame, 5, 6⟩, some ⟨7, true⟩⟩,
      ⟨none, none, some ⟨4, rcFrame, 5, 6⟩, some ⟨7, true⟩⟩, ⟨none, none, none, some ⟨7, true⟩⟩,
      .quiet].map (fun r => decodeEvent r.ports) =
    [.ok (.reset 1), .ok (.tick 2 3), .ok (.frameRx 4 rcFrame 5 6), .ok (.poll 7 true), .error .idle] := by
  decide +kernel

/-- `UngrantedRequestsStayPending` and the statements about every step that follow it: a step of each kind,
and the idle one. -/
theorem test_wit_steps :
    [asking live askRst, asking live askTick, asking live (askRx syncFrame), asking live (askRx badFrame),
      asking live askPoll, live].map (fun s => after (step s) (fun t => (t.out.ack, t.linkState))) =
    [some (some .rst, .disconnected), some (some .tick, .connected), some (some .rx, .connected),
      some (some .rx, .connected), some (some .poll, .disconnected), some (none, .connected)] := by
  decide +kernel

/-- `LinkSignalsMarkTheTransitions`: each signal occurs. -/
theorem test_wit_signals :
    after (step (asking (st .tentative 5 2) (askRx syncFrame))) (fun t => (t.linkState, t.out.cmds.head?)) =
        some (.connected, some .signalLinkUp) ∧
      after (step (asking live askPoll)) (fun t => (t.linkState, t.out.cmds[3]?)) =
        some (.disconnected, some .signalLinkDown) := by decide +kernel

/-- `EventsDoNotReadTheirSurroundings`: the four events, and surroundings that differ. -/
theorem test_wit_events :
    [Instr.tick 1 2, .frameRx 1 rcFrame 2 3, .poll 1 true, .reset 1].map isEvent =
        [true, true, true, true] ∧
      askTick ≠ .quiet ∧ State.reset.out ≠ .quiet := by decide +kernel

/-- `StatusPortReads`: the computed items, and the first number past the table. -/
theorem test_wit_status :
    [25, 26, 27].map live.readStatus = [916000000, 6, 0] := by decide +kernel

/-- The status value and the level output of each link state (R26, R53). -/
theorem test_link_codes :
    [LinkState.disconnected, .tentative, .connected].map
        (fun l => ((st l 0 0).readStatus 0, (st l 0 0).levels.linkState)) =
      [(0, 0), (1, 1), (2, 2)] := by decide +kernel

/-- R53: signed levels of a negative register, and a full window. -/
theorem test_levels :
    ({ live with rssiF := BitVec.ofInt 32 (-47), lqw := Vector.replicate 100 true } : State).levels =
      ⟨2, 2, ⟨0, 0, 0, 0⟩, ⟨0, 0, 0, 0⟩, 100, 0xFFFFFFD1, 0⟩ := by decide +kernel

/-- R236: the number of each kind. -/
theorem test_result_codes :
    [.crcMismatch, .addressMismatch, .redundancyMismatch, .unknownFrameType, .identityMismatch].map
      errorCode = [1, 2, 3, 4, 5] := by decide

/-- `FilterStaysBetweenValueAndSample`, `FilterConverges`: the extremes of the sample and the least window;
the settled clause of 2.6. -/
theorem test_wit_filter :
    Fits32 (-2147483648) ∧ Fits32 2147483647 ∧ 1 ≤ 1 ∧ filterError 97 100 4 0 = 3 ∧
      filterError 97 100 4 1 = 3 ∧ filterError 0 100 4 13 = 4 ∧ filterError 0 (-100) 4 14 = -3 := by
  decide +kernel

/-- `CorrectionStepSaturates`: the three signs, and the clamp on both sides (2.8). -/
theorem test_wit_correction :
    (refcfg.freqMin.toInt ≤ (100000 : BitVec 32).toInt ∧
      (100000 : BitVec 32).toInt ≤ refcfg.freqMax.toInt) ∧
    stepCorrection refcfg 100000 1 = 100000 ∧ stepCorrection refcfg 61 (BitVec.ofInt 32 (-1)) = 0 ∧
    stepCorrection refcfg 61 0 = 61 ∧
    stepCorrection refcfg (BitVec.ofInt 32 (-100000)) (BitVec.ofInt 32 (-1)) =
      BitVec.ofInt 32 (-100000) := by decide +kernel

/-- `PhaseCorrectionIsExact`, `EveryChannelOncePerCycle`, `HopAdvancesModuloTheLength`: `live`, with the two
ends of the sample's range (2.7) and the index at its last place. -/
theorem test_wit_phase :
    live.Inv ∧ phaseSample (st .connected 0 0) 5000 = -2500 ∧ phaseSample (st .connected 0 0) 4999 = 2499 ∧
      live.hopIdx.toNat < live.cfg.hopN ∧ live.hopIdx.toNat + 1 = live.cfg.hopN :=
  ⟨test_wit_live_inv, by decide +kernel⟩

/-- `EveryChannelOncePerCycle`: two places of one cycle, and a frequency of the table. -/
theorem test_wit_channel :
    live.hopFrequency 0 ≠ live.hopFrequency 7 ∧ 916000000 ∈ live.cfg.chanTable := by decide +kernel

/-- `GeneratedSequenceIsAPermutation`: one channel (2.5), and the channel counts at either end. -/
theorem test_wit_sequence :
    hopGenerate refcfg.uid 1 = [0] ∧ (1 ≤ 1 ∧ 1 ≤ 256) ∧
      (hopGenerate refcfg.uid 256).take 4 = [222, 227, 113, 243] := by decide +kernel

end Sys2Proof.Tests
end

/-! The hop sequence is a permutation of the channel numbers (`41_hop_sequence.md` rules R142, R144 (b)),
whatever generator the configuration names. -/

namespace Sys2Proof.Machine

/-- An exchange inside the list permutes it (R142). -/
theorem swapEntries_perm (l : List Byte) {i j : Nat} (hi : i < l.length) (hj : j < l.length) :
    (swapEntries l i j).Perm l := by
  rw [swapEntries, List.getD_eq_getElem _ _ hi, List.getD_eq_getElem _ _ hj]
  exact List.set_set_perm hi hj

/-- Every exchange of the shuffle is inside the list: the loop starts at an index of it and the draw is
reduced to the indices up to the loop's own (R142). -/
theorem shuffleFrom_perm (i s : Nat) (l : List Byte) (h : i < l.length) :
    (shuffleFrom i s l).Perm l := by
  induction i generalizing s l with
  | zero => exact .refl l
  | succ i ih =>
    have hdraw : lcgDraw (lcgStep s) % (i + 2) < l.length := (Nat.mod_lt _ (by omega)).trans_le (by omega)
    have hswap := swapEntries_perm l h hdraw
    exact (ih _ _ (by rw [hswap.length_eq]; omega)).trans hswap

/-- The identity sequence holds each channel number once, as long as the numbers fit a byte. -/
theorem identitySeq_isPermOf {n : Nat} (hn : n ≤ 256) : IsPermOf n (identitySeq n) := by
  have toNat_small : ∀ i < n, (BitVec.ofNat 8 i).toNat = i := fun i hi =>
    Nat.mod_eq_of_lt (show i < 256 by omega)
  refine ⟨by simp [identitySeq], ?_, ?_⟩
  · refine List.Nodup.map_on (fun x hx y hy hxy => ?_) List.nodup_range
    rw [← toNat_small x (List.mem_range.1 hx), ← toNat_small y (List.mem_range.1 hy), hxy]
  · intro c hc
    obtain ⟨i, hi, rfl⟩ := List.mem_map.1 hc
    have hi := List.mem_range.1 hi
    rwa [toNat_small i hi]

/-- Being a permutation of `0..n-1` does not depend on the order. -/
theorem isPermOf_of_perm {n : Nat} {l l' : List Byte} (h : IsPermOf n l) (p : l'.Perm l) :
    IsPermOf n l' := by
  obtain ⟨hlen, hnodup, hlt⟩ := h
  exact ⟨p.length_eq.trans hlen, p.nodup_iff.2 hnodup, fun c hc => hlt c (p.mem_iff.1 hc)⟩

/-- The reference algorithm generates a permutation (R144 (b)). -/
theorem hopGenerate_isPermOf (u : Uid) {n : Nat} (hpos : 1 ≤ n) (hn : n ≤ 256) :
    IsPermOf n (hopGenerate u n) :=
  isPermOf_of_perm (identitySeq_isPermOf hn)
    (shuffleFrom_perm _ _ _ (by simp only [identitySeq, List.length_map, List.length_range]; omega))

/-- `HOP_GEN(UID)` is a permutation in every configuration: R144 (b) for the reference algorithm, R267 for
any other generator. -/
theorem sequence_isPermOf (cfg : Config) : IsPermOf cfg.hopN cfg.sequence := by
  obtain ⟨⟨hpos, hle⟩, _, hgen, _⟩ := cfg.valid
  unfold Config.sequence
  cases h : cfg.hopGen with
  | reference => exact hopGenerate_isPermOf _ hpos hle
  | table seq =>
    rw [h] at hgen
    exact hgen

end Sys2Proof.Machine

/-! The invariants of `10_state.md` rule R38: each procedure keeps them, hence each event, hence each step
and each run; RESET establishes them. -/

namespace Sys2Proof.Machine

/-! ## What the configuration promises (R267) -/

/-- There is a channel, so index 0 is one (R267). -/
theorem hopN_pos (cfg : Config) : 0 < cfg.hopN := cfg.valid.1.1

/-- The boot profile is one of the table (R267). -/
theorem bootProfile_lt (cfg : Config) : cfg.bootProfile.toNat < cfg.nprof := by
  obtain ⟨_, _, _, _, hboot, _⟩ := cfg.valid
  exact hboot

/-- The quantum of the correction is positive (R267). -/
theorem freqQ_pos (cfg : Config) : 1 ≤ cfg.freqQ.toInt := by
  obtain ⟨_, _, _, _, _, _, _, _, hq, _⟩ := cfg.valid
  exact hq

/-- No correction is within the clamp (R267). -/
theorem zero_in_clamp (cfg : Config) :
    cfg.freqMin.toInt ≤ (0 : Word32).toInt ∧ (0 : Word32).toInt ≤ cfg.freqMax.toInt := by
  obtain ⟨_, _, _, _, _, _, _, _, _, hclamp⟩ := cfg.valid
  exact hclamp

/-- An index reduced modulo `HOP_N` is below it in its 8 bits (R146, R147). -/
theorem ofNat_mod_hopN_lt (cfg : Config) (n : Nat) : (BitVec.ofNat 8 (n % cfg.hopN)).toNat < cfg.hopN := by
  rw [BitVec.toNat_ofNat]
  exact (Nat.mod_le _ _).trans_lt (Nat.mod_lt _ (hopN_pos cfg))

/-- A profile number reduced modulo `NPROF` is below it (R220). -/
theorem nextProfile_lt (s : State) : s.nextProfile.toNat < s.cfg.nprof := by
  obtain ⟨_, _, _, ⟨hpos, _⟩, _⟩ := s.cfg.valid
  rw [nextProfile_toNat]
  exact Nat.mod_lt _ hpos

/-! ## The correction step -/

/-- From inside the clamp the correction step is exact: the clamped value fits 32 bits (R162). -/
theorem stepCorrection_toInt (cfg : Config) (c f : Word32) (hlow : cfg.freqMin.toInt ≤ c.toInt)
    (hhigh : c.toInt ≤ cfg.freqMax.toInt) :
    (stepCorrection cfg c f).toInt =
      if 0 < f.toInt then min (c.toInt + cfg.freqQ.toInt) cfg.freqMax.toInt
      else if f.toInt < 0 then max (c.toInt - cfg.freqQ.toInt) cfg.freqMin.toInt
      else c.toInt := by
  have hq := freqQ_pos cfg
  have hmax : cfg.freqMax.toInt < 2 ^ 31 := BitVec.toInt_lt
  have hmin : -2 ^ 31 ≤ cfg.freqMin.toInt := BitVec.le_toInt _
  unfold stepCorrection
  split
  · exact BitVec.toInt_ofInt_eq_self (by decide) (by simp; omega) (by simp; omega)
  · split
    · exact BitVec.toInt_ofInt_eq_self (by decide) (by simp; omega) (by simp; omega)
    · rfl

/-- The correction step does not leave the clamp (R163). -/
theorem stepCorrection_in_clamp (cfg : Config) (c f : Word32) (hlow : cfg.freqMin.toInt ≤ c.toInt)
    (hhigh : c.toInt ≤ cfg.freqMax.toInt) :
    cfg.freqMin.toInt ≤ (stepCorrection cfg c f).toInt ∧
      (stepCorrection cfg c f).toInt ≤ cfg.freqMax.toInt := by
  have hq := freqQ_pos cfg
  rw [stepCorrection_toInt cfg c f hlow hhigh]
  split
  · omega
  · split <;> omega

/-! ## Procedures that write none of the invariants' registers -/

/-- The fields that the invariants speak of. -/
def State.invFields (s : State) :
    Config × BitVec 8 × BitVec 8 × Word32 × Word32 × List (BitVec 8) × LinkState :=
  (s.cfg, s.hopIdx, s.profileIdx, s.freqCorr, s.freqF, s.seq, s.linkState)

/-- The invariants depend on these fields alone. -/
theorem State.Inv.of_invFields_eq {s t : State} (h : s.Inv) (e : t.invFields = s.invFields) : t.Inv := by
  simp only [State.invFields, Prod.mk.injEq] at e
  obtain ⟨hcfg, hhop, hprof, hcorr, hfreq, hseq, hlink⟩ := e
  constructor
  case hop => rw [hhop, hcfg]; exact h.hop
  case profile => rw [hprof, hcfg]; exact h.profile
  case freqLow => rw [hcorr, hcfg]; exact h.freqLow
  case freqHigh => rw [hcorr, hcfg]; exact h.freqHigh
  case perm => rw [hseq, hcfg]; exact h.perm
  case neutral => rw [hlink, hcorr, hfreq, hhop]; exact h.neutral

theorem State.Inv.beginEvent {s : State} (h : s.Inv) (k : EventKind) : (s.beginEvent k).Inv :=
  h.of_invFields_eq rfl

theorem State.Inv.present {s : State} (h : s.Inv) (r : Except DecodeError ParsedFrame) :
    (s.present r).Inv :=
  h.of_invFields_eq rfl

theorem State.Inv.raiseDecodeError {s : State} (h : s.Inv) (k : DecodeError) :
    (s.raiseDecodeError k).Inv :=
  h.of_invFields_eq rfl

theorem State.Inv.closeSlot {s : State} (h : s.Inv) (now : Time) : (s.closeSlot now).Inv :=
  h.of_invFields_eq rfl

theorem State.Inv.nonceAdvance {s : State} (h : s.Inv) : s.nonceAdvance.Inv :=
  h.of_invFields_eq rfl

theorem State.Inv.tlmAction {s : State} (h : s.Inv) : s.tlmAction.Inv :=
  h.of_invFields_eq (by simp [State.invFields])

theorem State.Inv.acceptFrame {s : State} (h : s.Inv) (tRx : Time) (rssi : BitVec 16)
    (snr : BitVec 8) : (s.acceptFrame tRx rssi snr).Inv :=
  h.of_invFields_eq rfl

theorem State.Inv.phaseCorrect {s : State} (h : s.Inv) (tRx : Time) : (s.phaseCorrect tRx).Inv :=
  h.of_invFields_eq rfl

/-- Arrivals and served lines are no register. -/
theorem State.Inv.withRequests {s : State} (h : s.Inv) (r : Requests) (e : List (List Request)) :
    ({ s with req := r, env := e } : State).Inv :=
  h.of_invFields_eq rfl

theorem State.Inv.idle {s : State} (h : s.Inv) : s.idle.Inv := h.of_invFields_eq rfl

/-! ## Procedures that write them -/

/-- A hop keeps the index in range and the correction in its clamp, and none happens while Disconnected
(R146, R162, R209). -/
theorem State.Inv.hopAction {s : State} (h : s.Inv) (fe : Word32) : (s.hopAction fe).Inv := by
  cases hd : s.hopDue with
  | false => rwa [hopAction_neg s fe hd]
  | true =>
    obtain ⟨_, _, hlive⟩ := (hopDue_iff s).1 hd
    obtain ⟨hlow, hhigh⟩ := stepCorrection_in_clamp s.cfg s.freqCorr (filter s.freqF fe.toInt s.cfg.wFreq)
      h.freqLow h.freqHigh
    rw [hopAction_pos s fe hd]
    exact
      { hop := ofNat_mod_hopN_lt s.cfg _
        profile := h.profile
        freqLow := hlow
        freqHigh := hhigh
        perm := h.perm
        neutral := fun hdisc => absurd hdisc hlive }

/-- An accepted SYNC leaves Disconnected (R188). -/
theorem onSync_linkState_ne (s : State) (hop nonce profile : Byte) (tRx : Time) :
    (s.onSync hop nonce profile tRx).linkState ≠ .disconnected := by
  rw [onSync_eq]
  cases hl : s.linkState with
  | disconnected => simp
  | tentative => by_cases hp : nonce = s.nonce ∧ hop = s.hopIdx <;> simp [hp]
  | connected => simp

/-- A SYNC loads a reduced index and leaves the link live (R147, R187). -/
theorem State.Inv.onSync {s : State} (h : s.Inv) (hop nonce profile : Byte) (tRx : Time) :
    (s.onSync hop nonce profile tRx).Inv := by
  have hlive := onSync_linkState_ne s hop nonce profile tRx
  rw [onSync_eq] at hlive ⊢
  exact
    { hop := ofNat_mod_hopN_lt s.cfg _
      profile := h.profile
      freqLow := h.freqLow
      freqHigh := h.freqHigh
      perm := h.perm
      neutral := fun hdisc => absurd hdisc hlive }

theorem State.Inv.frameAction {s : State} (h : s.Inv) (f : ParsedFrame) (tRx : Time) :
    (s.frameAction f tRx).Inv := by
  cases f with
  | rcData => exact h.of_invFields_eq rfl
  | switchData => exact h.of_invFields_eq rfl
  | sync hop nonce profile => exact h.onSync hop nonce profile tRx
  | telemetry => exact h

/-- Dropping the link clears what (g) asks to be clear (R193). -/
theorem State.Inv.enterDisconnected {s : State} (h : s.Inv) : s.enterDisconnected.Inv := by
  rw [enterDisconnected_eq]
  exact
    { hop := hopN_pos s.cfg
      profile := h.profile
      freqLow := (zero_in_clamp s.cfg).1
      freqHigh := (zero_in_clamp s.cfg).2
      perm := h.perm
      neutral := fun _ => ⟨rfl, rfl, rfl⟩ }

theorem State.Inv.checkTimeout {s : State} (h : s.Inv) (now : Time) : (s.checkTimeout now).Inv := by
  cases hd : s.timedOut now with
  | false => rwa [checkTimeout_neg s now hd]
  | true =>
    rw [checkTimeout_pos s now hd]
    exact h.enterDisconnected

/-- A switch to a profile of the table clears the index and the filters and keeps the correction (R222). -/
theorem State.Inv.setProfile {s : State} (h : s.Inv) (p : BitVec 8) (hp : p.toNat < s.cfg.nprof)
    (now : Time) : (s.setProfile p now).Inv := by
  rw [setProfile_eq]
  exact
    { hop := hopN_pos s.cfg
      profile := hp
      freqLow := h.freqLow
      freqHigh := h.freqHigh
      perm := h.perm
      neutral := fun hdisc => ⟨(h.neutral hdisc).1, rfl, rfl⟩ }

theorem State.Inv.rateScan {s : State} (h : s.Inv) (now : Time) (en : Bool) :
    (s.rateScan now en).Inv := by
  cases hd : s.scanDue now en with
  | false => rwa [rateScan_neg s now en hd]
  | true =>
    rw [rateScan_pos s now en hd]
    exact h.setProfile s.nextProfile (nextProfile_lt s) now

/-! ## The four events -/

/-- RESET leaves the invariants true whatever was before it (R265). -/
theorem resetEvent_inv (s : State) (now : Time) : (s.resetEvent now).Inv where
  hop := hopN_pos s.cfg
  profile := bootProfile_lt s.cfg
  freqLow := (zero_in_clamp s.cfg).1
  freqHigh := (zero_in_clamp s.cfg).2
  perm := sequence_isPermOf s.cfg
  neutral := fun _ => ⟨rfl, rfl, rfl⟩

theorem State.Inv.tick {s : State} (h : s.Inv) (now : Time) (fe : Word32) : (s.tick now fe).Inv :=
  ((((h.beginEvent .tick).closeSlot now).nonceAdvance).hopAction fe).tlmAction

theorem State.Inv.frameRx {s : State} (h : s.Inv) (tRx : Time) (b : Frame) (rssi : BitVec 16)
    (snr : BitVec 8) : (s.frameRx tRx b rssi snr).Inv := by
  cases hd : decodeFrame s.cfg b with
  | error k =>
    rw [frameRx_error s tRx b rssi snr k hd]
    exact (h.beginEvent .rx).raiseDecodeError k
  | ok f =>
    rw [frameRx_ok s tRx b rssi snr f hd]
    exact ((((h.beginEvent .rx).acceptFrame tRx rssi snr).frameAction f tRx).phaseCorrect tRx).present _

theorem State.Inv.poll {s : State} (h : s.Inv) (now : Time) (en : Bool) : (s.poll now en).Inv :=
  ((h.beginEvent .poll).checkTimeout now).rateScan now en

/-! ## Steps and runs -/

/-- Settles O39: a step is one of the four events or idling, after arrivals; each keeps the invariants. -/
theorem everyStepKeepsTheInvariant : Obligations.EveryStepKeepsTheInvariant := by
  intro s t h hs
  obtain ⟨u, r, e, rfl, hcase⟩ := step_inversion s t hs
  have hu := h.withRequests r e
  rcases hcase with ⟨n, rfl⟩ | ⟨n, f, rfl⟩ | ⟨a, b, c, d, rfl⟩ | ⟨a, b, rfl⟩ | rfl
  · exact resetEvent_inv _ n
  · exact hu.tick n f
  · exact hu.frameRx a b c d
  · exact hu.poll a b
  · exact hu.idle

/-- Settles O40, by induction on how the state is reached. -/
theorem runsStayInTheInvariant : Obligations.RunsStayInTheInvariant := by
  intro s t h hr
  induction hr with
  | start => exact h
  | trigger _ req env ih => exact ih.withRequests req env
  | step _ hs ih => exact everyStepKeepsTheInvariant _ _ ih hs

/-- Settles O58. -/
theorem resetEstablishesTheInvariant : Obligations.ResetEstablishesTheInvariant :=
  fun s now => ⟨s.resetEvent now, rfl, resetEvent_inv s now⟩

/-! ## The reset state -/

/-- Settles O29: RESET has no branch, so each register is the value it writes. -/
theorem resetInstallsTheResetValues : Obligations.ResetInstallsTheResetValues := by
  intro s now
  rfl

/-- The first frequency of REFCFG (R10, R142): channel 0 opens its sequence. -/
theorem refcfg_initialFrequency : chanAt refcfg (refcfg.sequence.getD 0 0) = 915000000 := by
  decide +kernel

/-- Settles O31, from what RESET installs and the values of REFCFG. -/
theorem resetStateIsTheResetEventAtZero : Obligations.ResetStateIsTheResetEventAtZero := by
  intro s hcfg hreq henv
  rw [resetInstallsTheResetValues s 0, hcfg, hreq, henv, refcfg_initialFrequency]
  rfl

/-- Settles O38: `State.reset` is the state of a RESET (O31), and RESET establishes the invariants. -/
theorem invariantHoldsAtReset : Obligations.InvariantHoldsAtReset := by
  have hreset : exec (.reset 0) State.reset = .next State.reset :=
    resetStateIsTheResetEventAtZero State.reset rfl rfl rfl
  obtain ⟨t, ht, hinv⟩ := resetEstablishesTheInvariant State.reset 0
  cases ht.symm.trans hreset
  exact hinv

end Sys2Proof.Machine

/-! What an event writes and reads: the access table of `10_state.md` rule R43, and the independence of an
event from outputs and requests (R41, R247). -/

namespace Sys2Proof.Machine

/-! ## The acknowledged line names the event of a step -/

/-- A step's acknowledgement tells which event ran, on a state `u` that differs from the one before in the
requests alone; none tells that the block idled. -/
theorem step_ack_inversion (s t : State) (h : step s = .next t) :
    ∃ (u : State) (r : Requests) (e : List (List Request)), u = { s with req := r, env := e } ∧
      (t.out.ack = some .rst → ∃ now, t = u.resetEvent now) ∧
      (t.out.ack = some .tick → ∃ now fe, t = u.tick now fe) ∧
      (t.out.ack = some .rx → ∃ tRx b rssi snr, t = u.frameRx tRx b rssi snr) ∧
      (t.out.ack = some .poll → ∃ now en, t = u.poll now en) ∧
      (t.out.ack = none → t = u.idle) := by
  obtain ⟨u, r, e, hu, hcase⟩ := step_inversion s t h
  refine ⟨u, r, e, hu, ?_⟩
  rcases hcase with ⟨n, rfl⟩ | ⟨n, f, rfl⟩ | ⟨a, b, c, d, rfl⟩ | ⟨a, b, rfl⟩ | rfl
  · rw [resetEvent_ack]
    exact ⟨fun _ => ⟨n, rfl⟩, nofun, nofun, nofun, nofun⟩
  · rw [tick_ack]
    exact ⟨nofun, fun _ => ⟨n, f, rfl⟩, nofun, nofun, nofun⟩
  · rw [frameRx_ack]
    exact ⟨nofun, nofun, fun _ => ⟨a, b, c, d, rfl⟩, nofun, nofun⟩
  · rw [poll_ack]
    exact ⟨nofun, nofun, nofun, fun _ => ⟨a, b, rfl⟩, nofun⟩
  · exact ⟨nofun, nofun, nofun, nofun, fun _ => rfl⟩

/-! ## Frames of the events (R43) -/

/-- TICK's column of the access table. -/
theorem tick_frame (s : State) (now : Time) (fe : Word32) :
    let t := s.tick now fe
    t.ch = s.ch ∧ t.sw = s.sw ∧ t.syncProfile = s.syncProfile ∧ t.linkState = s.linkState ∧
      t.profileIdx = s.profileIdx ∧ t.phaseF = s.phaseF ∧ t.rssiF = s.rssiF ∧ t.snrF = s.snrF ∧
      t.errCount = s.errCount ∧ t.lastValidTs = s.lastValidTs ∧ t.scanAnchorTs = s.scanAnchorTs ∧
      t.seq = s.seq := by
  simp [State.tick]

/-- The action of a frame leaves the profile, the frequency loop, the link-quality window, the tick time and
the sequence alone (R215 to R218). -/
theorem frameAction_frame (s : State) (f : ParsedFrame) (tRx : Time) :
    let t := s.frameAction f tRx
    t.profileIdx = s.profileIdx ∧ t.freqCorr = s.freqCorr ∧ t.freqF = s.freqF ∧ t.lqw = s.lqw ∧
      t.lqCursor = s.lqCursor ∧ t.lastTickTs = s.lastTickTs ∧ t.seq = s.seq := by
  cases f with
  | rcData => simp [State.frameAction]
  | switchData => simp [State.frameAction]
  | sync => simp [State.frameAction, onSync_eq]
  | telemetry => simp [State.frameAction]

/-- FRAME_RX's column of the access table. -/
theorem frameRx_frame (s : State) (tRx : Time) (b : Frame) (rssi : BitVec 16) (snr : BitVec 8) :
    let t := s.frameRx tRx b rssi snr
    t.profileIdx = s.profileIdx ∧ t.freqCorr = s.freqCorr ∧ t.freqF = s.freqF ∧ t.lqw = s.lqw ∧
      t.lqCursor = s.lqCursor ∧ t.lastTickTs = s.lastTickTs ∧ t.seq = s.seq := by
  cases hd : decodeFrame s.cfg b with
  | error k => simp [frameRx_error s tRx b rssi snr k hd]
  | ok f =>
    have hact := frameAction_frame ((s.beginEvent .rx).acceptFrame tRx rssi snr) f tRx
    simpa [frameRx_ok s tRx b rssi snr f hd] using hact

/-- POLL's column of the access table. -/
theorem poll_frame (s : State) (now : Time) (en : Bool) :
    let t := s.poll now en
    t.ch = s.ch ∧ t.sw = s.sw ∧ t.syncProfile = s.syncProfile ∧ t.nonce = s.nonce ∧
      t.errCount = s.errCount ∧ t.lastTickTs = s.lastTickTs ∧ t.lastValidTs = s.lastValidTs ∧
      t.seq = s.seq := by
  simp [State.poll]

/-- Settles O43: the acknowledged line names the event, and each event's frame is its column of the table. -/
theorem eventsWriteOnlyWhatTheTableAllows : Obligations.EventsWriteOnlyWhatTheTableAllows := by
  intro s t hs
  obtain ⟨u, r, e, rfl, _, htick, hrx, hpoll, hidle⟩ := step_ack_inversion s t hs
  refine ⟨fun hack => ?_, fun hack => ?_, fun hack => ?_, fun hack => ?_⟩
  · obtain ⟨now, fe, rfl⟩ := htick hack
    exact tick_frame _ now fe
  · obtain ⟨tRx, b, rssi, snr, rfl⟩ := hrx hack
    exact frameRx_frame _ tRx b rssi snr
  · obtain ⟨now, en, rfl⟩ := hpoll hack
    exact poll_frame _ now en
  · rw [hidle hack]
    rfl

/-! ## Events do not read their surroundings -/

/-- `s` with other request lines and other triggers to come. -/
def State.withLines (s : State) (r : Requests) (e : List (List Request)) : State :=
  { s with req := r, env := e }

section Lines

variable (s : State) (r : Requests) (e : List (List Request))

/-- An event starts with fresh outputs, so the old ones are forgotten (R16). -/
theorem beginEvent_forgets_outputs (o : Outputs) (k : EventKind) :
    (({ s with out := o } : State).withLines r e).beginEvent k = (s.beginEvent k).withLines r e := rfl

theorem closeSlot_withLines (now : Time) :
    (s.withLines r e).closeSlot now = (s.closeSlot now).withLines r e := rfl

theorem nonceAdvance_withLines : (s.withLines r e).nonceAdvance = s.nonceAdvance.withLines r e := rfl

theorem acceptFrame_withLines (tRx : Time) (rssi : BitVec 16) (snr : BitVec 8) :
    (s.withLines r e).acceptFrame tRx rssi snr = (s.acceptFrame tRx rssi snr).withLines r e := rfl

theorem phaseCorrect_withLines (tRx : Time) :
    (s.withLines r e).phaseCorrect tRx = (s.phaseCorrect tRx).withLines r e := rfl

theorem present_withLines (x : Except DecodeError ParsedFrame) :
    (s.withLines r e).present x = (s.present x).withLines r e := rfl

theorem raiseDecodeError_withLines (k : DecodeError) :
    (s.withLines r e).raiseDecodeError k = (s.raiseDecodeError k).withLines r e := rfl

theorem hopAction_withLines (fe : Word32) :
    (s.withLines r e).hopAction fe = (s.hopAction fe).withLines r e := by
  cases hd : s.hopDue with
  | false => rw [hopAction_neg s fe hd, hopAction_neg (s.withLines r e) fe hd]
  | true => rw [hopAction_pos s fe hd, hopAction_pos (s.withLines r e) fe hd]; rfl

theorem tlmAction_withLines : (s.withLines r e).tlmAction = s.tlmAction.withLines r e := by
  cases hd : s.tlmDue with
  | false => rw [tlmAction_neg s hd, tlmAction_neg (s.withLines r e) hd]
  | true => rw [tlmAction_pos s hd, tlmAction_pos (s.withLines r e) hd]; rfl

theorem frameAction_withLines (f : ParsedFrame) (tRx : Time) :
    (s.withLines r e).frameAction f tRx = (s.frameAction f tRx).withLines r e := by
  cases f with
  | rcData => rfl
  | switchData => rfl
  | sync hop nonce profile =>
    simp only [State.frameAction, onSync_eq]
    rfl
  | telemetry => rfl

theorem checkTimeout_withLines (now : Time) :
    (s.withLines r e).checkTimeout now = (s.checkTimeout now).withLines r e := by
  cases hd : s.timedOut now with
  | false => rw [checkTimeout_neg s now hd, checkTimeout_neg (s.withLines r e) now hd]
  | true => rw [checkTimeout_pos s now hd, checkTimeout_pos (s.withLines r e) now hd]; rfl

theorem rateScan_withLines (now : Time) (en : Bool) :
    (s.withLines r e).rateScan now en = (s.rateScan now en).withLines r e := by
  cases hd : s.scanDue now en with
  | false => rw [rateScan_neg s now en hd, rateScan_neg (s.withLines r e) now en hd]
  | true => rw [rateScan_pos s now en hd, rateScan_pos (s.withLines r e) now en hd]; rfl

/-! Each event from a state with other surroundings. -/

variable (o : Outputs)

theorem tick_surroundings (now : Time) (fe : Word32) :
    (({ s with out := o } : State).withLines r e).tick now fe = (s.tick now fe).withLines r e := by
  rw [State.tick, beginEvent_forgets_outputs, closeSlot_withLines, nonceAdvance_withLines,
    hopAction_withLines, tlmAction_withLines, State.tick]

theorem frameRx_surroundings (tRx : Time) (b : Frame) (rssi : BitVec 16) (snr : BitVec 8) :
    (({ s with out := o } : State).withLines r e).frameRx tRx b rssi snr =
      (s.frameRx tRx b rssi snr).withLines r e := by
  cases hd : decodeFrame s.cfg b with
  | error k =>
    rw [frameRx_error (({ s with out := o } : State).withLines r e) tRx b rssi snr k hd,
      beginEvent_forgets_outputs, raiseDecodeError_withLines, frameRx_error s tRx b rssi snr k hd]
  | ok f =>
    rw [frameRx_ok (({ s with out := o } : State).withLines r e) tRx b rssi snr f hd,
      beginEvent_forgets_outputs, acceptFrame_withLines, frameAction_withLines, phaseCorrect_withLines,
      present_withLines, frameRx_ok s tRx b rssi snr f hd]

theorem poll_surroundings (now : Time) (en : Bool) :
    (({ s with out := o } : State).withLines r e).poll now en = (s.poll now en).withLines r e := by
  rw [State.poll, beginEvent_forgets_outputs, checkTimeout_withLines, rateScan_withLines, State.poll]

end Lines

/-- Settles O37, event by event. -/
theorem eventsDoNotReadTheirSurroundings : Obligations.EventsDoNotReadTheirSurroundings := by
  intro s i o r e hi
  change ∃ t, exec i s = .next t ∧
    exec i (({ s with out := o } : State).withLines r e) = .next (t.withLines r e)
  cases i with
  | tick now fe =>
    exact ⟨s.tick now fe, rfl, congrArg Host.Outcome.next (tick_surroundings s r e o now fe)⟩
  | frameRx tRx b rssi snr =>
    exact ⟨s.frameRx tRx b rssi snr, rfl,
      congrArg Host.Outcome.next (frameRx_surroundings s r e o tRx b rssi snr)⟩
  | poll now en =>
    exact ⟨s.poll now en, rfl, congrArg Host.Outcome.next (poll_surroundings s r e o now en)⟩
  | reset now => exact ⟨s.resetEvent now, rfl, rfl⟩
  | rcData | switchData | sync | telemetry | encSync | encTlm => cases hi

end Sys2Proof.Machine

/-! The status port, the level outputs and the command codes (`10_state.md` rules R42, R52, R53). -/

namespace Sys2Proof.Machine

/-- `S0` reads the number of the link state (R26). -/
theorem readStatus_linkState (s : State) :
    (s.readStatus 0).toNat = match s.linkState with
      | .disconnected => 0
      | .tentative => 1
      | .connected => 2 := by
  rw [State.readStatus]
  cases s.linkState <;> rfl

/-- `S9` reads the number of hits in the window (R177). -/
theorem readStatus_lq (s : State) : (s.readStatus 9).toNat = s.hits := by
  have hle := hits_le s
  rw [State.readStatus, lq_eq_hits, BitVec.toNat_ofNat]
  omega

/-- The 7-bit quality level loses nothing (R53, R177). -/
theorem levels_lq (s : State) : s.levels.lq.setWidth 64 = s.readStatus 9 := by
  have hle := hits_le s
  apply BitVec.eq_of_toNat_eq
  rw [readStatus_lq, State.levels, lq_eq_hits, BitVec.toNat_setWidth, BitVec.toNat_ofNat]
  omega

/-- No register stands above `S26` (R42). -/
theorem readStatus_above (s : State) {n : Nat} (hn : 27 ≤ n) : s.readStatus n = 0 := by
  obtain ⟨k, rfl⟩ := Nat.exists_eq_add_of_le' hn
  rfl

/-- Settles O57, register by register. -/
theorem statusPortReads : Obligations.StatusPortReads := by
  intro s
  have unsigned {w : Nat} (x : BitVec w) (hw : w ≤ 64 := by decide) : (x.setWidth 64).toNat = x.toNat :=
    BitVec.toNat_setWidth_of_le hw
  have signed {w : Nat} (x : BitVec w) (hw : w ≤ 64 := by decide) : (x.signExtend 64).toInt = x.toInt :=
    BitVec.toInt_signExtend_of_le hw
  refine ⟨readStatus_linkState s, unsigned _, unsigned _, unsigned _, signed _, signed _, signed _,
    signed _, signed _, readStatus_lq s, ?cursor, ?seen, unsigned _, rfl, rfl, rfl, unsigned _,
    ?channels, ?switches, unsigned _, ?address, fun n => readStatus_above s, rfl, rfl, rfl, rfl,
    levels_lq s, rfl, rfl⟩
  case cursor => exact Nat.mod_eq_of_lt (s.lqCursor.isLt.trans (by decide))
  case seen => exact Nat.mod_eq_of_lt ((Bool.toNat_lt _).trans (by decide))
  case channels => simp [State.readStatus, unsigned]
  case switches => simp [State.readStatus, unsigned]
  case address => exact (unsigned _).trans (deviceAddr_toNat s.cfg)

/-- Settles O59: the codes are the rows of the table. -/
theorem commandCodesAsListed : Obligations.CommandCodesAsListed :=
  ⟨fun _ _ _ => rfl, fun _ => rfl, rfl, rfl, fun _ => rfl, fun _ => rfl, fun _ => rfl, fun _ => rfl,
    rfl, rfl, rfl, rfl⟩

end Sys2Proof.Machine

/-! A step as the grant of one instruction (`20_memory.md` rule R69), and what no step or only RESET writes:
the configuration, the sequence (R73, R149), and the identity bytes the sequence is generated from (R61). -/

namespace Sys2Proof.Machine

/-! ## The hop sequence reads four identity bytes -/

/-- The seed is `UID[2]` to `UID[5]` (R61, R141). -/
theorem hopSeed_ignores_u0_u1 (u : Uid) (x y : Byte) : hopSeed { u with u0 := x, u1 := y } = hopSeed u :=
  rfl

/-- The identity enters the generator through its seed alone (R142). -/
theorem hopGenerate_congr_seed {u v : Uid} (h : hopSeed u = hopSeed v) (n : Nat) :
    hopGenerate u n = hopGenerate v n := by
  rw [hopGenerate, hopGenerate, h]

/-- Settles O53: the seed does not hold the first two bytes. -/
theorem sequenceIgnoresTheFirstTwoIdentityBytes : Obligations.SequenceIgnoresTheFirstTwoIdentityBytes :=
  fun u x y n => hopGenerate_congr_seed (hopSeed_ignores_u0_u1 u x y) n

/-! ## The granted instruction -/

/-- Decoding the event ports reads nothing of the configuration (R95). -/
theorem decode_event_ok_iff (cfg : Config) (w : EventWord) (i : Instr) :
    decode cfg (.event w) = .ok i ↔ decodeEvent w = .ok i := by
  rw [decode]
  cases decodeEvent w with
  | ok j => simp
  | error e => simp

/-- The decoder rejects a port word with the arbiter's own reason (R95). -/
theorem decode_event_error_iff (cfg : Config) (w : EventWord) (e : GrantError) :
    decode cfg (.event w) = .error (.grant e) ↔ decodeEvent w = .error e := by
  rw [decode]
  cases decodeEvent w with
  | ok j => simp
  | error k => simp

/-- A granted event runs with its line taken (R69, R245). -/
theorem step_of_fetch_ok (s : State) (i : Instr) (h : s.fetch = .ok i) :
    step s = exec i s.arrive.serve := by
  rw [step, h]

/-- With nothing pending the block idles (R256). -/
theorem step_of_fetch_idle (s : State) (h : s.fetch = .error .idle) :
    step s = .next s.arrive.idle := by
  rw [step, h]

/-- Settles O34: a step is the decoded ports' instruction or idling, and arrival touches the lines alone. -/
theorem stepRunsTheGrantedInstruction : Obligations.StepRunsTheGrantedInstruction := by
  intro s
  refine ⟨fun i hi => ?granted, fun hidle => ?idle, arrive_eq s, rfl⟩
  case granted => exact step_of_fetch_ok s i ((decode_event_ok_iff s.cfg _ i).1 hi)
  case idle => exact step_of_fetch_idle s ((decode_event_error_iff s.cfg _ .idle).1 hidle)

/-! ## The configuration and the sequence -/

@[simp] theorem tick_cfg (s : State) (now : Time) (fe : Word32) : (s.tick now fe).cfg = s.cfg := by
  simp [State.tick]

@[simp] theorem tick_seq (s : State) (now : Time) (fe : Word32) : (s.tick now fe).seq = s.seq := by
  simp [State.tick]

@[simp] theorem frameAction_cfg (s : State) (f : ParsedFrame) (tRx : Time) :
    (s.frameAction f tRx).cfg = s.cfg := by
  cases f with
  | rcData => simp [State.frameAction]
  | switchData => simp [State.frameAction]
  | sync => simp [State.frameAction, onSync_eq]
  | telemetry => simp [State.frameAction]

@[simp] theorem frameRx_cfg (s : State) (tRx : Time) (b : Frame) (rssi : BitVec 16) (snr : BitVec 8) :
    (s.frameRx tRx b rssi snr).cfg = s.cfg := by
  cases hd : decodeFrame s.cfg b with
  | error k => simp [frameRx_error s tRx b rssi snr k hd]
  | ok f => simp [frameRx_ok s tRx b rssi snr f hd]

@[simp] theorem frameRx_seq (s : State) (tRx : Time) (b : Frame) (rssi : BitVec 16) (snr : BitVec 8) :
    (s.frameRx tRx b rssi snr).seq = s.seq := by
  obtain ⟨_, _, _, _, _, _, hseq⟩ := frameRx_frame s tRx b rssi snr
  exact hseq

@[simp] theorem poll_cfg (s : State) (now : Time) (en : Bool) : (s.poll now en).cfg = s.cfg := by
  simp [State.poll]

@[simp] theorem poll_seq (s : State) (now : Time) (en : Bool) : (s.poll now en).seq = s.seq := by
  simp [State.poll]

@[simp] theorem resetEvent_cfg (s : State) (now : Time) : (s.resetEvent now).cfg = s.cfg := by
  simp [State.resetEvent]

/-- RESET regenerates the sequence from the identity (R149, R265). -/
@[simp] theorem resetEvent_seq (s : State) (now : Time) : (s.resetEvent now).seq = s.cfg.sequence := by
  simp [State.resetEvent]

/-- Settles O41: of the five things a step can be, RESET alone writes the sequence, and RESET alone
acknowledges the reset line. -/
theorem configurationAndSequenceAreConstant : Obligations.ConfigurationAndSequenceAreConstant := by
  intro s t hs
  obtain ⟨u, r, e, rfl, hcase⟩ := step_inversion s t hs
  rcases hcase with ⟨n, rfl⟩ | ⟨n, f, rfl⟩ | ⟨a, b, c, d, rfl⟩ | ⟨a, b, rfl⟩ | rfl
  · exact ⟨resetEvent_cfg _ n, fun _ => resetEvent_seq _ n, fun hack => absurd (resetEvent_ack _ n) hack⟩
  · rw [tick_ack]
    exact ⟨tick_cfg _ n f, nofun, fun _ => tick_seq _ n f⟩
  · rw [frameRx_ack]
    exact ⟨frameRx_cfg _ a b c d, nofun, fun _ => frameRx_seq _ a b c d⟩
  · rw [poll_ack]
    exact ⟨poll_cfg _ a b, nofun, fun _ => poll_seq _ a b⟩
  · exact ⟨rfl, nofun, fun _ => rfl⟩

end Sys2Proof.Machine

/-! The words of the instructions (`30_encoding.md` rules R80 to R99): fields that are packed into a byte come
out again, an encoder's frame decodes to what it encodes, and which bits of a frame the decoder does not read. -/

namespace Sys2Proof.Machine

/-! ## Packing bit fields -/

/-- Two neighbouring fields of a value, put side by side, are the one field they make up. -/
theorem extract_join {v w : Nat} (c : BitVec v) (k m n : Nat) :
    ((c.extractLsb' (k + m) n).setWidth w <<< m) ||| (c.extractLsb' k m).setWidth w =
      (c.extractLsb' k (n + m)).setWidth w := by
  ext i hi
  by_cases hm : i < m
  · simp [hm, Nat.lt_add_left n hm]
  · have hk : k + m + (i - m) = k + i := by omega
    have hn : i - m < n ↔ i < n + m := by omega
    simp [hm, hk, hn]

/-- A value is its high field beside its low field. -/
theorem high_join_low {w : Nat} (c : BitVec w) (m n : Nat) (hw : w = n + m) :
    ((c.extractLsb' m n).setWidth w <<< m) ||| (c.extractLsb' 0 m).setWidth w = c := by
  subst hw
  simpa using extract_join (w := n + m) c 0 m n

/-- A header byte is its address beside its type (R81). -/
theorem mkHeader_fields (b : Frame) : mkHeader b.addr b.type = b.header :=
  high_join_low b.header 2 6 rfl

/-- Three fields of 3, 3 and 2 bits in one byte: `p[4]` of L11 (R83) and `p[0]` of SWITCH_DATA (R85). -/
def pack332 (x y : BitVec 3) (z : BitVec 2) : Byte :=
  (x.setWidth 8 <<< 5) ||| (y.setWidth 8 <<< 2) ||| z.setWidth 8

/-- Fields of 1 and 3 bits above four unused ones: `p[5]` of L11 (R83) and `p[1]` of SWITCH_DATA (R85). -/
def pack13 (x : BitVec 1) (y : BitVec 3) : Byte := (x.setWidth 8 <<< 7) ||| (y.setWidth 8 <<< 4)

/-- Four fields of 2 bits in one byte: `p[4]` of L10 (R84). -/
def pack2222 (x y z t : BitVec 2) : Byte :=
  (x.setWidth 8 <<< 6) ||| (y.setWidth 8 <<< 4) ||| (z.setWidth 8 <<< 2) ||| t.setWidth 8

@[simp] theorem pack332_high (x y : BitVec 3) (z : BitVec 2) : (pack332 x y z).extractLsb' 5 3 = x := by
  revert x y z; decide

@[simp] theorem pack332_mid (x y : BitVec 3) (z : BitVec 2) : (pack332 x y z).extractLsb' 2 3 = y := by
  revert x y z; decide

@[simp] theorem pack332_low (x y : BitVec 3) (z : BitVec 2) : (pack332 x y z).extractLsb' 0 2 = z := by
  revert x y z; decide

@[simp] theorem pack13_high (x : BitVec 1) (y : BitVec 3) : (pack13 x y).extractLsb' 7 1 = x := by
  revert x y; decide

@[simp] theorem pack13_low (x : BitVec 1) (y : BitVec 3) : (pack13 x y).extractLsb' 4 3 = y := by
  revert x y; decide

@[simp] theorem pack2222_first (x y z t : BitVec 2) : (pack2222 x y z t).extractLsb' 6 2 = x := by
  revert x y z t; decide

@[simp] theorem pack2222_second (x y z t : BitVec 2) : (pack2222 x y z t).extractLsb' 4 2 = y := by
  revert x y z t; decide

@[simp] theorem pack2222_third (x y z t : BitVec 2) : (pack2222 x y z t).extractLsb' 2 2 = z := by
  revert x y z t; decide

@[simp] theorem pack2222_fourth (x y z t : BitVec 2) : (pack2222 x y z t).extractLsb' 0 2 = t := by
  revert x y z t; decide

/-! The encoders pack their fields so (R83 to R85). -/

theorem encodeL11_eq (cfg : Config) (c0 c1 c2 c3 : BitVec 11) :
    encodeL11 cfg c0 c1 c2 c3 =
      mkFrame cfg 0 (c0.extractLsb' 3 8) (c1.extractLsb' 3 8) (c2.extractLsb' 3 8) (c3.extractLsb' 3 8)
        (pack332 (c0.extractLsb' 0 3) (c1.extractLsb' 0 3) (c2.extractLsb' 1 2))
        (pack13 (c2.extractLsb' 0 1) (c3.extractLsb' 0 3)) := rfl

theorem encodeL10_eq (cfg : Config) (c0 c1 c2 c3 : BitVec 11) :
    encodeL10 cfg c0 c1 c2 c3 =
      mkFrame cfg 0 (c0.extractLsb' 3 8) (c1.extractLsb' 3 8) (c2.extractLsb' 3 8) (c3.extractLsb' 3 8)
        (pack2222 (c0.extractLsb' 1 2) (c1.extractLsb' 1 2) (c2.extractLsb' 1 2) (c3.extractLsb' 1 2))
        0 := rfl

theorem encodeSwitch_eq (cfg : Config) (s0 s1 s2 s3 : BitVec 3) (hop nonce : Byte) :
    encodeSwitch cfg s0 s1 s2 s3 hop nonce =
      mkFrame cfg 1 (pack332 s0 s1 (s2.extractLsb' 1 2)) (pack13 (s2.extractLsb' 0 1) s3)
        hop nonce hop nonce := rfl

/-! ## The decoder, type by type -/

section Decoder

variable (cfg : Config) (b : Frame)

/-- Only a frame that passes both checks decodes (R112). -/
theorem addressed_of_decodeFrame_ok {f : ParsedFrame} (h : decodeFrame cfg b = .ok f) :
    Addressed cfg b := by
  rw [decodeFrame] at h
  split at h
  · cases h
  · next hcrc =>
    split at h
    · cases h
    · next haddr => exact ⟨not_not.1 hcrc, not_not.1 haddr⟩

/-- An inbound word stands for the action of the frame it decodes to (R115). -/
theorem decode_frameIn_ok_iff (i : Instr) :
    decode cfg (.frameIn b) = .ok i ↔ ∃ f, decodeFrame cfg b = .ok f ∧ f.instr = i := by
  rw [decode]
  cases decodeFrame cfg b with
  | ok f => simp
  | error k => simp

/-! R82, R115: the type of a frame for this device selects the unpacking. -/

theorem decodeFrame_rcData_L11 (hb : Addressed cfg b) (ht : b.type = 0) (hl : cfg.rcLayout = .L11) :
    decodeFrame cfg b = .ok (unpackL11 b) := by
  rw [decodeFrame_addressed cfg b hb, unpack, if_pos ht, unpackRC, hl]

theorem decodeFrame_rcData_L10 (hb : Addressed cfg b) (ht : b.type = 0) (hl : cfg.rcLayout = .L10) :
    decodeFrame cfg b = .ok (unpackL10 b) := by
  rw [decodeFrame_addressed cfg b hb, unpack, if_pos ht, unpackRC, hl]

theorem decodeFrame_switchData (hb : Addressed cfg b) (ht : b.type = 1) :
    decodeFrame cfg b = unpackSwitch b := by
  simp [decodeFrame_addressed cfg b hb, unpack, ht]

theorem decodeFrame_sync (hb : Addressed cfg b) (ht : b.type = 2) :
    decodeFrame cfg b = unpackSync cfg b := by
  simp [decodeFrame_addressed cfg b hb, unpack, ht]

theorem decodeFrame_telemetry (hb : Addressed cfg b) (ht : b.type = 3) :
    decodeFrame cfg b = .ok (.telemetry b.p0 b.p1 b.p2 b.p3 b.p4 b.p5) := by
  simp [decodeFrame_addressed cfg b hb, unpack, ht]

/-- A SYNC payload unpacks when it ends in the identity suffix (R119). -/
theorem unpackSync_ok_iff (f : ParsedFrame) :
    unpackSync cfg b = .ok f ↔
      (b.p3 = cfg.uid.u3 ∧ b.p4 = cfg.uid.u4 ∧ b.p5 = cfg.uid.u5) ∧ .sync b.p0 b.p1 b.p2 = f := by
  by_cases h : b.p3 = cfg.uid.u3 ∧ b.p4 = cfg.uid.u4 ∧ b.p5 = cfg.uid.u5
  · simp [unpackSync, h]
  · have hne : b.p3 ≠ cfg.uid.u3 ∨ b.p4 ≠ cfg.uid.u4 ∨ b.p5 ≠ cfg.uid.u5 := by tauto
    simp [unpackSync, h, hne]

/-- A SYNC frame of this device reads as a call of `ENC_SYNC` (R127). -/
theorem decodeOutbound_encSync (hb : Addressed cfg b) (ht : b.type = 2) (h3 : b.p3 = cfg.uid.u3)
    (h4 : b.p4 = cfg.uid.u4) (h5 : b.p5 = cfg.uid.u5) :
    decodeOutbound cfg b = .ok (.encSync b.p0 b.p1 b.p2) := by
  have hcrc : expectedCrc cfg b = b.crc := hb.1
  simp [decodeOutbound, hcrc, hb.2, ht, h3, h4, h5]

/-- A TELEMETRY frame of this device that a statistics reply can be reads as a call of `ENC_TLM` (R126). -/
theorem decodeOutbound_encTlm (hb : Addressed cfg b) (ht : b.type = 3) (hlq : b.p2.toNat ≤ 100)
    (h3 : b.p3 = 0) (h4 : b.p4 = 0) (h5 : b.p5 = 0) : decodeOutbound cfg b = .ok .encTlm := by
  have hcrc : expectedCrc cfg b = b.crc := hb.1
  simp [decodeOutbound, hcrc, hb.2, ht, hlq, h3, h4, h5]

/-- A built frame is one for this device (R99). -/
theorem addressed_mkFrame (t : BitVec 2) (p0 p1 p2 p3 p4 p5 : Byte) :
    Addressed cfg (mkFrame cfg t p0 p1 p2 p3 p4 p5) :=
  ⟨mkFrame_crc .., mkFrame_addr ..⟩

/-- A frame for this device is the one built from its type and payload: the address and the CRC byte are
determined (R81, R89). -/
theorem mkFrame_of_addressed (h : Addressed cfg b) :
    mkFrame cfg b.type b.p0 b.p1 b.p2 b.p3 b.p4 b.p5 = b := by
  obtain ⟨hcrc, haddr⟩ := h
  have hheader : mkHeader (deviceAddr cfg) b.type = b.header := haddr ▸ mkHeader_fields b
  simp only [mkFrame, expectedCrc, Frame.body, hheader]
  exact congrArg (Frame.mk b.header b.p0 b.p1 b.p2 b.p3 b.p4 b.p5) hcrc

end Decoder

/-! ## Each encoder's frame decodes back -/

section RoundTrip

variable (cfg : Config)

/-- R83, R90 against R99: channel 2 is the one whose three low bits lie in two bytes. -/
theorem unpackL11_encodeL11 (c0 c1 c2 c3 : BitVec 11) :
    unpackL11 (encodeL11 cfg c0 c1 c2 c3) = .rcData c0 c1 c2 c3 := by
  have hlow : ((c2.extractLsb' 1 2).setWidth 11 <<< 1) ||| (c2.extractLsb' 0 1).setWidth 11 =
      (c2.extractLsb' 0 3).setWidth 11 := extract_join c2 0 1 2
  rw [encodeL11_eq]
  simp [unpackL11, mkFrame, high_join_low, BitVec.or_assoc, hlow]

/-- A channel that L10 can carry loses nothing when its bit 0 is dropped (R91). -/
theorem l10Channel_fields {c : BitVec 11} (h : isL10Channel c = true) :
    l10Channel (c.extractLsb' 3 8) (c.extractLsb' 1 2) = c := by
  have hjoin : ((c.extractLsb' 3 8).setWidth 10 <<< 2) ||| (c.extractLsb' 1 2).setWidth 10 =
      c.extractLsb' 1 10 := extract_join c 1 2 8
  have heven : c.extractLsb' 0 1 = 0 := by
    ext i hi
    simpa [isL10Channel, Nat.lt_one_iff.1 hi] using h
  have hsplit := high_join_low c 1 10 rfl
  rw [l10Channel, hjoin]
  simpa [heven] using hsplit

theorem unpackL10_encodeL10 {c0 c1 c2 c3 : BitVec 11} (h0 : isL10Channel c0 = true)
    (h1 : isL10Channel c1 = true) (h2 : isL10Channel c2 = true) (h3 : isL10Channel c3 = true) :
    unpackL10 (encodeL10 cfg c0 c1 c2 c3) = .rcData c0 c1 c2 c3 := by
  rw [encodeL10_eq]
  simp [unpackL10, mkFrame, l10Channel_fields, h0, h1, h2, h3]

/-- R85 against R99: switch 2 is the one that lies in two bytes; the two copies agree as built. -/
theorem unpackSwitch_encodeSwitch (s0 s1 s2 s3 : BitVec 3) (hop nonce : Byte) :
    unpackSwitch (encodeSwitch cfg s0 s1 s2 s3 hop nonce) = .ok (.switchData s0 s1 s2 s3 hop nonce) := by
  rw [encodeSwitch_eq]
  simp [unpackSwitch, mkFrame, high_join_low]

theorem decodeFrame_encodeL11 (hl : cfg.rcLayout = .L11) (c0 c1 c2 c3 : BitVec 11) :
    decodeFrame cfg (encodeL11 cfg c0 c1 c2 c3) = .ok (.rcData c0 c1 c2 c3) :=
  (decodeFrame_rcData_L11 cfg _ (addressed_mkFrame ..) (mkFrame_type ..) hl).trans
    (congrArg Except.ok (unpackL11_encodeL11 ..))

theorem decodeFrame_encodeL10 (hl : cfg.rcLayout = .L10) {c0 c1 c2 c3 : BitVec 11}
    (h0 : isL10Channel c0 = true) (h1 : isL10Channel c1 = true) (h2 : isL10Channel c2 = true)
    (h3 : isL10Channel c3 = true) :
    decodeFrame cfg (encodeL10 cfg c0 c1 c2 c3) = .ok (.rcData c0 c1 c2 c3) :=
  (decodeFrame_rcData_L10 cfg _ (addressed_mkFrame ..) (mkFrame_type ..) hl).trans
    (congrArg Except.ok (unpackL10_encodeL10 cfg h0 h1 h2 h3))

theorem decodeFrame_encodeSwitch (s0 s1 s2 s3 : BitVec 3) (hop nonce : Byte) :
    decodeFrame cfg (encodeSwitch cfg s0 s1 s2 s3 hop nonce) =
      .ok (.switchData s0 s1 s2 s3 hop nonce) :=
  (decodeFrame_switchData cfg _ (addressed_mkFrame ..) (mkFrame_type ..)).trans
    (unpackSwitch_encodeSwitch ..)

/-- R128, first half: the frame of `ENC_SYNC` decodes to its three arguments. -/
theorem decodeFrame_encSyncFrame (hop nonce prof : Byte) :
    decodeFrame cfg (encSyncFrame cfg hop nonce prof) = .ok (.sync hop nonce prof) :=
  (decodeFrame_sync cfg _ (addressed_mkFrame ..) (mkFrame_type ..)).trans
    ((unpackSync_ok_iff ..).2 ⟨⟨rfl, rfl, rfl⟩, rfl⟩)

/-- A built frame of type 3 decodes to its six bytes as they are (R120). -/
theorem decodeFrame_mkFrame_telemetry (p0 p1 p2 p3 p4 p5 : Byte) :
    decodeFrame cfg (mkFrame cfg 3 p0 p1 p2 p3 p4 p5) = .ok (.telemetry p0 p1 p2 p3 p4 p5) :=
  decodeFrame_telemetry cfg _ (addressed_mkFrame ..) (mkFrame_type ..)

/-- The frame of `ENC_SYNC` reads as that call with its arguments (R127). -/
theorem decodeOutbound_encSyncFrame (hop nonce prof : Byte) :
    decodeOutbound cfg (encSyncFrame cfg hop nonce prof) = .ok (.encSync hop nonce prof) :=
  decodeOutbound_encSync cfg _ (addressed_mkFrame ..) (mkFrame_type ..) rfl rfl rfl

/-- Whatever the statistics, a quality up to 100 makes a frame that reads as `ENC_TLM` (R88, R126). -/
theorem decodeOutbound_encTlmFrame (rssi snr : Byte) {lq : Byte} (h : lq.toNat ≤ 100) :
    decodeOutbound cfg (encTlmFrame cfg rssi snr lq) = .ok .encTlm :=
  decodeOutbound_encTlm cfg _ (addressed_mkFrame ..) (mkFrame_type ..) h rfl rfl rfl

/-- The round trip of RC_DATA, in the configured layout; L10 needs its even channels (R91). -/
theorem decode_encode_rcData {c0 c1 c2 c3 : BitVec 11}
    (hwf : WellFormed cfg (.rcData c0 c1 c2 c3) = true) :
    decode cfg (encode cfg (.rcData c0 c1 c2 c3)) = .ok (.rcData c0 c1 c2 c3) := by
  cases hl : cfg.rcLayout with
  | L11 =>
    rw [encode, hl]
    exact (decode_frameIn_ok_iff ..).2 ⟨_, decodeFrame_encodeL11 cfg hl c0 c1 c2 c3, rfl⟩
  | L10 =>
    rw [WellFormed, hl] at hwf
    simp only [Bool.and_eq_true] at hwf
    obtain ⟨⟨⟨h0, h1⟩, h2⟩, h3⟩ := hwf
    rw [encode, hl]
    exact (decode_frameIn_ok_iff ..).2 ⟨_, decodeFrame_encodeL10 cfg hl h0 h1 h2 h3, rfl⟩

end RoundTrip

/-! ## The unused bits -/

/-- A field above the four low bits reads only the high half of the byte. -/
theorem extract_congr_high {x y : Byte} (h : x.toNat / 16 = y.toNat / 16) (k n : Nat) :
    x.extractLsb' (4 + k) n = y.extractLsb' (4 + k) n := by
  apply BitVec.eq_of_toNat_eq
  simp only [BitVec.extractLsb'_toNat, Nat.shiftRight_eq_div_pow, pow_add, ← Nat.div_div_eq_div_mul]
  exact congrArg (fun q => q / 2 ^ k % 2 ^ n) h

/-- R93 under L11: the low half of `p[5]` is not read. -/
theorem unpackL11_congr_p5 (b : Frame) {x : Byte} (c : Byte) (h : x.toNat / 16 = b.p5.toNat / 16) :
    unpackL11 { b with p5 := x, crc := c } = unpackL11 b := by
  simp only [unpackL11, extract_congr_high h 3 1, extract_congr_high h 0 3]

/-- R93 for SWITCH_DATA: the low half of `p[1]` is not read. -/
theorem unpackSwitch_congr_p1 (b : Frame) {x : Byte} (c : Byte) (h : x.toNat / 16 = b.p1.toNat / 16) :
    unpackSwitch { b with p1 := x, crc := c } = unpackSwitch b := by
  simp only [unpackSwitch, extract_congr_high h 3 1, extract_congr_high h 0 3]

/-! ## The obligations -/

/-- Settles O1, row by row. -/
theorem decodeInvertsEncode : Obligations.DecodeInvertsEncode := by
  intro cfg i hwf
  cases i with
  | rcData c0 c1 c2 c3 => exact decode_encode_rcData cfg hwf
  | switchData s0 s1 s2 s3 hop nonce =>
    exact (decode_frameIn_ok_iff ..).2 ⟨_, decodeFrame_encodeSwitch cfg s0 s1 s2 s3 hop nonce, rfl⟩
  | sync hop nonce profile =>
    exact (decode_frameIn_ok_iff ..).2 ⟨_, decodeFrame_encSyncFrame cfg hop nonce profile, rfl⟩
  | telemetry p0 p1 p2 p3 p4 p5 =>
    exact (decode_frameIn_ok_iff ..).2 ⟨_, decodeFrame_mkFrame_telemetry cfg p0 p1 p2 p3 p4 p5, rfl⟩
  | encSync hop nonce prof => exact decodeOutbound_encSyncFrame cfg hop nonce prof
  | encTlm => exact decodeOutbound_encTlmFrame cfg 0 0 (by decide)
  | tick now freqErr => exact (decode_event_ok_iff ..).2 rfl
  | frameRx tRx b rssi snr => exact (decode_event_ok_iff ..).2 rfl
  | poll now scanEnable => exact (decode_event_ok_iff ..).2 rfl
  | reset now => exact (decode_event_ok_iff ..).2 rfl

/-- Settles O2: the frame is the one built from its type and payload, and these two payloads are kept
whole, the identity suffix being the device's own. -/
theorem acceptedSyncAndTelemetryReencode : Obligations.AcceptedSyncAndTelemetryReencode := by
  intro cfg b i hdec htype
  obtain ⟨f, hf, rfl⟩ := (decode_frameIn_ok_iff cfg b i).1 hdec
  have haddr := addressed_of_decodeFrame_ok cfg b hf
  have hbuilt := mkFrame_of_addressed cfg b haddr
  rcases htype with ht | ht
  · rw [decodeFrame_sync cfg b haddr ht] at hf
    obtain ⟨⟨h3, h4, h5⟩, rfl⟩ := (unpackSync_ok_iff cfg b f).1 hf
    rw [ht, h3, h4, h5] at hbuilt
    exact congrArg Code.frameIn hbuilt
  · rw [decodeFrame_telemetry cfg b haddr ht] at hf
    cases hf
    rw [ht] at hbuilt
    exact congrArg Code.frameIn hbuilt

/-- Settles O11: the type stands in the header, which is the same, and the unpacking it selects does not
read the bits that differ. -/
theorem unusedBitsDoNotReachTheResult : Obligations.UnusedBitsDoNotReachTheResult := by
  intro cfg b x c hb
  refine ⟨fun hb' ht hl => ?L10, fun hb' ht hl hx => ?L11, fun hb' ht hx => ?switch⟩
  case L10 =>
    rw [decodeFrame_rcData_L10 cfg _ hb' ht hl, decodeFrame_rcData_L10 cfg b hb ht hl]
    rfl
  case L11 =>
    rw [decodeFrame_rcData_L11 cfg _ hb' ht hl, decodeFrame_rcData_L11 cfg b hb ht hl,
      unpackL11_congr_p5 b c hx]
  case switch =>
    rw [decodeFrame_switchData cfg _ hb' ht, decodeFrame_switchData cfg b hb ht,
      unpackSwitch_congr_p1 b c hx]

/-- A word that is the encoding of a well-formed instruction decodes to it. -/
theorem decode_of_encode_eq {cfg : Config} {i : Instr} {w : Code} (h : encode cfg i = w)
    (hwf : WellFormed cfg i = true) : decode cfg w = .ok i :=
  h ▸ decodeInvertsEncode cfg i hwf

/-- Settles O4: each word but the last two is what the encoder builds, the reply of `ENC_TLM` with its
statistics filled in. -/
theorem specWordsDecodeAsWritten : Obligations.SpecWordsDecodeAsWritten := by
  have hreply : (⟨0x1B, 0xD1, 0x05, 0x03, 0x00, 0x00, 0x00, 0xFF⟩ : Frame) =
      encTlmFrame refcfg 0xD1 0x05 0x03 := by decide +kernel
  refine ⟨decode_of_encode_eq ?rc rfl, decode_of_encode_eq ?switch rfl, decode_of_encode_eq ?sync rfl,
    decode_of_encode_eq ?telemetry rfl, decode_of_encode_eq ?encSync rfl, ?encTlm,
    decode_of_encode_eq rfl rfl, decode_of_encode_eq rfl rfl, decode_of_encode_eq rfl rfl,
    decode_of_encode_eq rfl rfl, rfl, rfl⟩
  case encTlm =>
    rw [hreply]
    exact decodeOutbound_encTlmFrame refcfg 0xD1 0x05 (by decide)
  case rc | switch | sync | telemetry | encSync => decide +kernel

end Sys2Proof.Machine

/-! The frame codec (`40_frame_codec.md`): which frames each decode error answers, what the CRC detects, the
values that each payload decodes to, and the frames that the two encoders return. -/

namespace Sys2Proof.Machine

/-! ## Bit fields as numbers -/

/-- A field as a number is a quotient and a remainder. -/
theorem extract_toNat {w : Nat} (p : BitVec w) (k n : Nat) :
    (p.extractLsb' k n).toNat = p.toNat / 2 ^ k % 2 ^ n := by
  rw [BitVec.extractLsb'_toNat, Nat.shiftRight_eq_div_pow]

/-- A value put above one of `m` bits adds up with it when neither is cut. -/
theorem shiftLeft_or_toNat {w : Nat} (x y : BitVec w) (m : Nat) (hx : x.toNat * 2 ^ m < 2 ^ w)
    (hy : y.toNat < 2 ^ m) : ((x <<< m) ||| y).toNat = 2 ^ m * x.toNat + y.toNat := by
  have hshift : (x <<< m).toNat = x.toNat <<< m := by
    rw [BitVec.toNat_shiftLeft, Nat.shiftLeft_eq, Nat.mod_eq_of_lt hx]
  rw [BitVec.toNat_or, hshift, ← Nat.shiftLeft_add_eq_or_of_lt hy, Nat.shiftLeft_eq, Nat.mul_comm]

/-- Two fields side by side, in a word that holds both, as a number. -/
theorem join_toNat {w n m : Nat} (x : BitVec n) (y : BitVec m) (hw : n + m ≤ w) :
    ((x.setWidth w <<< m) ||| y.setWidth w).toNat = 2 ^ m * x.toNat + y.toNat := by
  have hxw : (x.setWidth w).toNat = x.toNat := BitVec.toNat_setWidth_of_le (by omega)
  have hyw : (y.setWidth w).toNat = y.toNat := BitVec.toNat_setWidth_of_le (by omega)
  have hx : x.toNat * 2 ^ m < 2 ^ w :=
    calc x.toNat * 2 ^ m < 2 ^ n * 2 ^ m := Nat.mul_lt_mul_of_pos_right x.isLt (Nat.two_pow_pos m)
      _ = 2 ^ (n + m) := (Nat.pow_add 2 n m).symm
      _ ≤ 2 ^ w := Nat.pow_le_pow_right (by decide) hw
  rw [shiftLeft_or_toNat _ _ m (by rwa [hxw]) (by rw [hyw]; exact y.isLt), hxw, hyw]

/-- The address field as a number (R81). -/
theorem addr_toNat (b : Frame) : b.addr.toNat = b.header.toNat / 4 := by
  rw [Frame.addr, extract_toNat]
  omega

/-- A header is for this device when its six high bits are those of `DEVICE_ADDR` (R114, R125). -/
theorem addr_eq_deviceAddr_iff (cfg : Config) (b : Frame) :
    b.addr = deviceAddr cfg ↔ b.header.toNat / 4 = cfg.uid.u5.toNat % 64 := by
  rw [← BitVec.toNat_inj, addr_toNat, deviceAddr_toNat]

/-! ## The decode errors -/

section Errors

variable (cfg : Config) (b : Frame) (k : DecodeError)

theorem unpackSwitch_error_iff :
    unpackSwitch b = .error k ↔ k = .redundancyMismatch ∧ (b.p2 ≠ b.p4 ∨ b.p3 ≠ b.p5) := by
  rw [unpackSwitch]
  split
  · next hdiff => simp [hdiff, eq_comm (b := k)]
  · next hsame => simp [hsame]

theorem unpackSync_error_iff :
    unpackSync cfg b = .error k ↔
      k = .identityMismatch ∧ (b.p3 ≠ cfg.uid.u3 ∨ b.p4 ≠ cfg.uid.u4 ∨ b.p5 ≠ cfg.uid.u5) := by
  rw [unpackSync]
  split
  · next hdiff => simp [hdiff, eq_comm (b := k)]
  · next hsame => simp [hsame]

/-- Only two types have a check of their own (R115, R118, R119). -/
theorem unpack_error_iff :
    unpack cfg b = .error k ↔
      b.type = 1 ∧ k = .redundancyMismatch ∧ (b.p2 ≠ b.p4 ∨ b.p3 ≠ b.p5) ∨
      b.type = 2 ∧ k = .identityMismatch ∧
        (b.p3 ≠ cfg.uid.u3 ∨ b.p4 ≠ cfg.uid.u4 ∨ b.p5 ≠ cfg.uid.u5) := by
  rw [unpack]
  split
  · next h0 => simp [h0]
  · split
    · next h1 => simp [h1, unpackSwitch_error_iff]
    · next h1 =>
      split
      · next h2 => simp [h2, unpackSync_error_iff]
      · next h2 => exact iff_of_false nofun (by tauto)

/-- The order of R112: the CRC, then the address, then the check of the type. -/
theorem decodeFrame_error_iff :
    decodeFrame cfg b = .error k ↔
      expectedCrc cfg b ≠ b.crc ∧ k = .crcMismatch ∨
      expectedCrc cfg b = b.crc ∧ b.addr ≠ deviceAddr cfg ∧ k = .addressMismatch ∨
      Addressed cfg b ∧ unpack cfg b = .error k := by
  have haddressed : Addressed cfg b ↔ expectedCrc cfg b = b.crc ∧ b.addr = deviceAddr cfg := Iff.rfl
  rw [decodeFrame, haddressed]
  split
  · next hcrc => simp [hcrc, eq_comm]
  · next hcrc =>
    split
    · next haddr => simp [not_not.1 hcrc, haddr, eq_comm]
    · next haddr => simp [not_not.1 hcrc, not_not.1 haddr]

/-- R113: only the first check raises `CrcMismatch`. -/
theorem decodeFrame_crcMismatch_iff :
    decodeFrame cfg b = .error .crcMismatch ↔ b.crc ≠ crc8 b.body + cfg.crcOffset := by
  rw [decodeFrame_error_iff, ne_comm]
  simp [unpack_error_iff, expectedCrc]

end Errors

/-- Settles O5: each kind is raised in one place of the order of checks. -/
theorem decodeErrorsExactlyAsListed : Obligations.DecodeErrorsExactlyAsListed := by
  intro cfg b
  refine ⟨decodeFrame_crcMismatch_iff cfg b, ?address, ?redundancy, ?identity, ?unknown⟩
  case address =>
    rw [ne_eq, ← addr_eq_deviceAddr_iff, decodeFrame_error_iff, eq_comm (a := b.crc)]
    simp [unpack_error_iff, expectedCrc]
  case redundancy => simp [decodeFrame_error_iff, unpack_error_iff]
  case identity => simp [decodeFrame_error_iff, unpack_error_iff]
  case unknown => simp [decodeFrame_error_iff, unpack_error_iff]

/-! ## The values of each frame type -/

/-- R91, R117: a channel of L10 is twice its ten bits. -/
theorem l10Channel_toNat (p : Byte) (low : BitVec 2) :
    (l10Channel p low).toNat = 2 * (4 * p.toNat + low.toNat) := by
  have hjoin := join_toNat (w := 10) p low (by decide)
  rw [l10Channel, BitVec.toNat_shiftLeft, BitVec.toNat_setWidth, hjoin, Nat.shiftLeft_eq]
  omega

/-- R83, R116: channel 2 of L11 from its three fields. -/
theorem join3_toNat (p : Byte) (mid : BitVec 2) (low : BitVec 1) :
    ((p.setWidth 11 <<< 3) ||| (mid.setWidth 11 <<< 1) ||| low.setWidth 11).toNat =
      8 * p.toNat + 2 * mid.toNat + low.toNat := by
  have hlow := join_toNat (w := 11) mid low (by decide)
  have hp : (p.setWidth 11).toNat = p.toNat := BitVec.toNat_setWidth_of_le (by decide)
  rw [BitVec.or_assoc, shiftLeft_or_toNat _ _ 3 (by omega) (by omega), hlow, hp]
  omega

/-- Settles O7: each channel is fields side by side. -/
theorem rcDataL11ChannelValues : Obligations.RcDataL11ChannelValues := by
  intro cfg b hb ht hl
  refine ⟨_, _, _, _, decodeFrame_rcData_L11 cfg b hb ht hl, ?_, ?_, ?_, ?_⟩
  · rw [join_toNat _ _ (by decide), extract_toNat]
    omega
  · rw [join_toNat _ _ (by decide), extract_toNat]
    rfl
  · rw [join3_toNat, extract_toNat, extract_toNat]
    omega
  · rw [join_toNat _ _ (by decide), extract_toNat]
    rfl

/-- Settles O8, the same for the fields of L10. -/
theorem rcDataL10ChannelValues : Obligations.RcDataL10ChannelValues := by
  intro cfg b hb ht hl
  refine ⟨_, _, _, _, decodeFrame_rcData_L10 cfg b hb ht hl, ?_, ?_, ?_, ?_⟩
  · rw [l10Channel_toNat, extract_toNat]
    omega
  · rw [l10Channel_toNat, extract_toNat]
    rfl
  · rw [l10Channel_toNat, extract_toNat]
    rfl
  · rw [l10Channel_toNat, extract_toNat]
    omega

/-- Settles O9: the check of the copies decides; switch 2 is the one that lies in two bytes. -/
theorem switchDataValues : Obligations.SwitchDataValues := by
  intro cfg b hb ht
  rw [decodeFrame_switchData cfg b hb ht]
  split
  · next hsame =>
    refine ⟨_, _, _, _, if_neg (by simp [hsame]), ?_, ?_, ?_, ?_⟩
    · rw [extract_toNat]
      omega
    · exact extract_toNat ..
    · rw [join_toNat _ _ (by decide), extract_toNat, extract_toNat]
      omega
    · exact extract_toNat ..
  · next hdiff => exact (unpackSwitch_error_iff b _).2 ⟨rfl, by tauto⟩

/-- Settles O10: the identity suffix decides for SYNC; TELEMETRY has no check. -/
theorem syncAndTelemetryValues : Obligations.SyncAndTelemetryValues := by
  intro cfg b hb
  refine ⟨fun ht => ?sync, decodeFrame_telemetry cfg b hb⟩
  rw [decodeFrame_sync cfg b hb ht]
  split
  · next hsuffix => exact (unpackSync_ok_iff cfg b _).2 ⟨hsuffix, rfl⟩
  · next hsuffix => exact (unpackSync_error_iff cfg b _).2 ⟨rfl, by tauto⟩

/-! ## The encoders -/

/-- The header of a built frame as a number (R81, R125). -/
theorem mkFrame_header_toNat (cfg : Config) (t : BitVec 2) (p0 p1 p2 p3 p4 p5 : Byte) :
    (mkFrame cfg t p0 p1 p2 p3 p4 p5).header.toNat = 4 * (cfg.uid.u5.toNat % 64) + t.toNat := by
  rw [mkFrame, mkHeader_toNat, deviceAddr_toNat]

/-- The quality fits the byte it is sent in (R126, R177). -/
theorem lq_byte_toNat (s : State) : (BitVec.ofNat 8 s.lq : Byte).toNat = s.hits := by
  have hle := hits_le s
  rw [lq_eq_hits, BitVec.toNat_ofNat]
  omega

/-- R128: the reply of `ENC_TLM` decodes to the statistics it carries. -/
theorem decodeFrame_tlmFrame (s : State) :
    decodeFrame s.cfg s.tlmFrame =
      .ok (.telemetry (s.rssiF.setWidth 8) (s.snrF.setWidth 8) (BitVec.ofNat 8 s.lq) 0 0 0) :=
  decodeFrame_mkFrame_telemetry ..

/-- FRAME_RX of an inbound TELEMETRY frame: no action of its own between the common actions and the phase
correction (R212, R218). -/
theorem exec_frameRx_telemetry (s : State) (tRx : Time) (b : Frame) (rssi : BitVec 16) (snr : BitVec 8)
    (p0 p1 p2 p3 p4 p5 : Byte) (h : decodeFrame s.cfg b = .ok (.telemetry p0 p1 p2 p3 p4 p5)) :
    exec (.frameRx tRx b rssi snr) s =
      .next ((((s.beginEvent .rx).acceptFrame tRx rssi snr).phaseCorrect tRx).present
        (.ok (.telemetry p0 p1 p2 p3 p4 p5))) :=
  congrArg Host.Outcome.next (frameRx_ok s tRx b rssi snr _ h)

/-- Settles O3: both frames are built by `mkFrame`, and what is heard is a TELEMETRY frame. -/
theorem encodedFramesDecodeBack : Obligations.EncodedFramesDecodeBack :=
  ⟨decodeFrame_encSyncFrame, decodeFrame_tlmFrame, fun s tRx rssi snr =>
    exec_frameRx_telemetry s tRx s.tlmFrame rssi snr _ _ _ _ _ _ (decodeFrame_tlmFrame s)⟩

/-- Settles O16: the frame is `SYNCF` of the arguments. -/
theorem encSyncReturnsTheFrame : Obligations.EncSyncReturnsTheFrame := by
  intro s hop nonce prof
  exact ⟨encSyncFrame s.cfg hop nonce prof, rfl, mkFrame_header_toNat .., rfl, rfl, rfl, rfl, rfl, rfl,
    rfl⟩

/-- Settles O17: the three statistics are the low byte of each filter and the number of hits. -/
theorem encTlmReturnsTheReply : Obligations.EncTlmReturnsTheReply := by
  intro s
  exact ⟨s.tlmFrame, rfl, mkFrame_header_toNat .., BitVec.toNat_setWidth .., BitVec.toNat_setWidth ..,
    lq_byte_toNat s, rfl, rfl, rfl, rfl⟩

/-! ## The checksum is linear

`crcBit` is multiplication by `x` modulo the polynomial of R111: it distributes over the exclusive-or and
takes only 0 to 0. -/

theorem crcBit_xor (x y : Byte) : crcBit (x ^^^ y) = crcBit x ^^^ crcBit y := by
  have hcancel (a b p : Byte) : (a ^^^ p) ^^^ (b ^^^ p) = a ^^^ b := by
    calc (a ^^^ p) ^^^ (b ^^^ p) = (a ^^^ b) ^^^ (p ^^^ p) := by ac_rfl
      _ = a ^^^ b := by rw [BitVec.xor_self, BitVec.xor_zero]
  rw [crcBit, crcBit, crcBit, BitVec.getLsbD_xor, BitVec.shiftLeft_xor_distrib]
  cases x.getLsbD 7 <;> cases y.getLsbD 7
  case true.true => exact (hcancel ..).symm
  case true.false =>
    change ((x <<< 1) ^^^ (y <<< 1)) ^^^ crcPoly = ((x <<< 1) ^^^ crcPoly) ^^^ (y <<< 1)
    ac_rfl
  case false.true => exact BitVec.xor_assoc ..
  case false.false => rfl

theorem crcBit_eq_zero_iff (x : Byte) : crcBit x = 0 ↔ x = 0 := by
  revert x; decide

/-- One bit step shifts, and what the shift pushes out comes back as a message bit would (R111). -/
theorem crcBit_eq_shift_xor_carry (x : Byte) : crcBit x = (x <<< 1) ^^^ crcBit^[8] (x >>> 7) := by
  revert x; decide

theorem crcBit_iterate_xor (n : Nat) (x y : Byte) :
    crcBit^[n] (x ^^^ y) = crcBit^[n] x ^^^ crcBit^[n] y := by
  induction n generalizing x y with
  | zero => rfl
  | succ n ih => simp only [Function.iterate_succ_apply, crcBit_xor, ih]

theorem crcBit_iterate_eq_zero_iff (n : Nat) (x : Byte) : crcBit^[n] x = 0 ↔ x = 0 := by
  induction n generalizing x with
  | zero => rfl
  | succ n ih => rw [Function.iterate_succ_apply, ih, crcBit_eq_zero_iff]

theorem crcBit_iterate_zero (n : Nat) : crcBit^[n] 0 = 0 :=
  (crcBit_iterate_eq_zero_iff n 0).2 rfl

theorem crcByte_zero (m : Byte) : crcByte 0 m = crcBit^[8] m := congrArg crcBit^[8] BitVec.zero_xor

theorem crcByte_xor (c d m n : Byte) : crcByte (c ^^^ d) (m ^^^ n) = crcByte c m ^^^ crcByte d n := by
  have hswap : (c ^^^ d) ^^^ (m ^^^ n) = (c ^^^ m) ^^^ (d ^^^ n) := by ac_rfl
  rw [crcByte, crcByte, crcByte, hswap, crcBit_iterate_xor]

/-- A register one bit step ahead stays so over a message byte shifted by one: the bit `m` lost at its top is
in the register already, the bit `carry` it gains is still to come. -/
theorem crcByte_shifted (c m carry : Byte) :
    crcByte (crcBit c ^^^ crcBit^[8] (m >>> 7)) ((m <<< 1) ^^^ carry) =
      crcBit (crcByte c m) ^^^ crcBit^[8] carry := by
  have hregister : (crcBit c ^^^ crcBit^[8] (m >>> 7)) ^^^ ((m <<< 1) ^^^ carry) =
      crcBit (c ^^^ m) ^^^ carry := by
    rw [crcBit_xor, crcBit_eq_shift_xor_carry m]
    ac_rfl
  rw [crcByte, hregister, crcBit_iterate_xor, crcByte, ← Function.iterate_succ_apply,
    Function.iterate_succ_apply']

/-! ## The checksum of a 56-bit word -/

/-- The `n` low bytes of a word, the highest first: the order in which R111 takes them. -/
def lowBytes (w : BitVec 56) : Nat → List Byte
  | 0 => []
  | n + 1 => w.extractLsb' (8 * n) 8 :: lowBytes w n

/-- `CRC8(b[0..6])` of the frame whose 56 bits are `w`. -/
def wordCrc (w : BitVec 56) : Byte := (lowBytes w 7).foldl crcByte 0

theorem crc8_frameOfBits (w : BitVec 56) (c : Byte) : crc8 (frameOfBits w c).body = wordCrc w := rfl

theorem foldl_lowBytes_xor (v w : BitVec 56) (n : Nat) (c d : Byte) :
    (lowBytes (v ^^^ w) n).foldl crcByte (c ^^^ d) =
      (lowBytes v n).foldl crcByte c ^^^ (lowBytes w n).foldl crcByte d := by
  induction n generalizing c d with
  | zero => rfl
  | succ n ih => simp only [lowBytes, List.foldl_cons, BitVec.extractLsb'_xor, crcByte_xor, ih]

theorem wordCrc_xor (v w : BitVec 56) : wordCrc (v ^^^ w) = wordCrc v ^^^ wordCrc w :=
  foldl_lowBytes_xor v w 7 0 0

/-- The bit that a shift by one carries from the byte below into byte `n`. -/
def carryInto (w : BitVec 56) : Nat → Byte
  | 0 => 0
  | n + 1 => w.extractLsb' (8 * n) 8 >>> 7

/-- A byte of a shifted word: its own seven low bits and the carry from below. -/
theorem extract_shiftLeft_one (w : BitVec 56) {n : Nat} (hn : n < 7) :
    (w <<< 1).extractLsb' (8 * n) 8 = (w.extractLsb' (8 * n) 8 <<< 1) ^^^ carryInto w n := by
  ext i hi
  cases n with
  | zero =>
    cases i with
    | zero => simp [carryInto]
    | succ i => simp [carryInto]; omega
  | succ n =>
    cases i with
    | zero => simp [carryInto, Nat.mul_add]; omega
    | succ i =>
      have htop : ¬7 + (i + 1) < 8 := by omega
      simp [carryInto, Nat.mul_add, htop]; omega

/-- Shifting the word by one is one more bit step on the register, apart from the carry still to come. -/
theorem foldl_lowBytes_shiftLeft_one (w : BitVec 56) {n : Nat} (hn : n ≤ 7) (c : Byte) :
    (lowBytes (w <<< 1) n).foldl crcByte (crcBit c ^^^ crcBit^[8] (carryInto w n)) =
      crcBit ((lowBytes w n).foldl crcByte c) := by
  induction n generalizing c with
  | zero =>
    rw [carryInto, crcBit_iterate_zero]
    exact BitVec.xor_zero
  | succ n ih =>
    rw [lowBytes, List.foldl_cons, extract_shiftLeft_one w hn, carryInto, crcByte_shifted,
      ih (by omega), lowBytes, List.foldl_cons]

/-- Unless a bit is cut at the top, a shift by one multiplies the checksum by `x`. -/
theorem wordCrc_shiftLeft_one (w : BitVec 56) (h : w.toNat < 2 ^ 55) :
    wordCrc (w <<< 1) = crcBit (wordCrc w) := by
  have hcarry : carryInto w 7 = 0 := by
    apply BitVec.eq_of_toNat_eq
    rw [carryInto, BitVec.toNat_ushiftRight, extract_toNat, Nat.shiftRight_eq_div_pow]
    exact Nat.div_eq_of_lt (by omega)
  have hfold := foldl_lowBytes_shiftLeft_one w le_rfl 0
  rw [hcarry] at hfold
  exact hfold

/-- Over a word with only its low byte set, the register stays 0 up to that byte. -/
theorem foldl_lowBytes_setWidth (d : Byte) (n : Nat) :
    (lowBytes (d.setWidth 56) (n + 1)).foldl crcByte 0 = crcBit^[8] d := by
  induction n with
  | zero =>
    have hbyte : (d.setWidth 56).extractLsb' (8 * 0) 8 = d := by
      rw [Nat.mul_zero, BitVec.extractLsb'_setWidth_of_le (by decide)]
      simp
    rw [lowBytes, hbyte, lowBytes, List.foldl_cons, List.foldl_nil, crcByte_zero]
  | succ n ih =>
    have hbyte : (d.setWidth 56).extractLsb' (8 * (n + 1)) 8 = 0 := by
      ext i hi
      have hout : d.getLsbD (8 * (n + 1) + i) = false := d.getLsbD_of_ge _ (by omega)
      simp [hout]
    rw [lowBytes, hbyte, List.foldl_cons, crcByte_zero, crcBit_iterate_zero, ih]

/-- The checksum of a burst `d` that begins `k` bits above the end, none of it cut at the top: in R111's
terms `d(x) * x^(k+8)` modulo the polynomial. -/
theorem wordCrc_burst (d : Byte) (k : Nat) (h : d.toNat * 2 ^ k < 2 ^ 56) :
    wordCrc (d.setWidth 56 <<< k) = crcBit^[k + 8] d := by
  induction k with
  | zero => rw [BitVec.shiftLeft_zero, wordCrc, foldl_lowBytes_setWidth]
  | succ k ih =>
    have hk : d.toNat * 2 ^ k < 2 ^ 55 := by rw [Nat.pow_succ, ← Nat.mul_assoc] at h; omega
    have hword : (d.setWidth 56 <<< k).toNat < 2 ^ 55 := by
      rw [BitVec.toNat_shiftLeft, BitVec.toNat_setWidth_of_le (by decide), Nat.shiftLeft_eq]
      exact (Nat.mod_le ..).trans_lt hk
    rw [BitVec.shiftLeft_add, wordCrc_shiftLeft_one _ hword, ih (hk.trans (by decide)),
      Nat.add_right_comm k 1 8]
    exact (Function.iterate_succ_apply' crcBit (k + 8) d).symm

/-- A burst that is cut at the top is a shorter one that is not. -/
theorem exists_uncut_burst (d : Byte) {k : Nat} (hk : k ≤ 56) :
    ∃ e : Byte, e.toNat * 2 ^ k < 2 ^ 56 ∧ e.setWidth 56 <<< k = d.setWidth 56 <<< k := by
  have hsplit : 2 ^ 56 = 2 ^ (56 - k) * 2 ^ k := by rw [← Nat.pow_add, Nat.sub_add_cancel hk]
  have he : (BitVec.ofNat 8 (d.toNat % 2 ^ (56 - k))).toNat = d.toNat % 2 ^ (56 - k) := by
    rw [BitVec.toNat_ofNat, Nat.mod_eq_of_lt ((Nat.mod_le ..).trans_lt d.isLt)]
  refine ⟨BitVec.ofNat 8 (d.toNat % 2 ^ (56 - k)), ?uncut, ?same⟩
  case uncut =>
    rw [he, hsplit]
    exact Nat.mul_lt_mul_of_pos_right (Nat.mod_lt _ (Nat.two_pow_pos _)) (Nat.two_pow_pos k)
  case same =>
    apply BitVec.eq_of_toNat_eq
    rw [BitVec.toNat_shiftLeft, BitVec.toNat_shiftLeft, BitVec.toNat_setWidth_of_le (by decide),
      BitVec.toNat_setWidth_of_le (by decide), he, Nat.shiftLeft_eq, Nat.shiftLeft_eq, hsplit,
      Nat.mul_mod_mul_right, Nat.mul_mod_mul_right, Nat.mod_mod]

/-- R124 (c), (d): no burst within eight bits has the checksum 0. -/
theorem wordCrc_burst_ne_zero (d : Byte) (k : Nat) (h : d.setWidth 56 <<< k ≠ 0) :
    wordCrc (d.setWidth 56 <<< k) ≠ 0 := by
  have hk : k ≤ 56 := by
    by_contra hk
    exact h (BitVec.shiftLeft_eq_zero (by omega))
  obtain ⟨e, huncut, hsame⟩ := exists_uncut_burst d hk
  rw [← hsame] at h ⊢
  rw [wordCrc_burst e k huncut, ne_eq, crcBit_iterate_eq_zero_iff]
  rintro rfl
  exact h (by simp)

/-! ## What the CRC detects -/

/-- A burst changes the checksum of any word: it adds its own, which is not 0. -/
theorem wordCrc_xor_burst_ne (w : BitVec 56) (d : Byte) (k : Nat) (h : d.setWidth 56 <<< k ≠ 0) :
    wordCrc (w ^^^ (d.setWidth 56 <<< k)) ≠ wordCrc w := by
  rw [wordCrc_xor]
  intro heq
  exact wordCrc_burst_ne_zero d k h ((BitVec.xor_right_inj _).1 (heq.trans BitVec.xor_zero.symm))

/-- R124 (a): the CRC byte is determined by the 56 bits before it. -/
theorem frameOfBits_passes_iff (cfg : Config) (w : BitVec 56) (c : Byte) :
    decodeFrame cfg (frameOfBits w c) ≠ .error .crcMismatch ↔ c = wordCrc w + cfg.crcOffset := by
  rw [ne_eq, decodeFrame_crcMismatch_iff, not_not, crc8_frameOfBits]
  rfl

/-- Settles O6: a changed CRC byte is not the one that passes, and a burst changes the one that does. -/
theorem crcDetectsBurstErrors : Obligations.CrcDetectsBurstErrors := by
  intro cfg w
  refine ⟨frameOfBits_passes_iff cfg w, ?crcByte, wordCrc_xor_burst_ne w, ?burst⟩
  case crcByte =>
    intro c d hpass hd
    by_contra hpass'
    have hc := (frameOfBits_passes_iff ..).1 hpass
    have hcd := (frameOfBits_passes_iff ..).1 hpass'
    exact hd ((BitVec.xor_right_inj _).1 ((hcd.trans hc.symm).trans BitVec.xor_zero.symm))
  case burst =>
    intro c d k hburst hpass
    by_contra hpass'
    have hc := (frameOfBits_passes_iff ..).1 hpass
    have hc' := (frameOfBits_passes_iff ..).1 hpass'
    exact wordCrc_xor_burst_ne w d k hburst ((BitVec.add_left_inj _).1 (hc'.symm.trans hc))

end Sys2Proof.Machine

/-! The hop sequence in use (`41_hop_sequence.md` rules R140, R142, R144 (c), R146): what the generator gives,
that one cycle of the index reads each channel once, and that advances run through the cycle. -/

namespace Sys2Proof.Machine

/-- Settles O52, by the exchanges of the shuffle, each of which permutes the identity sequence. -/
theorem generatedSequenceIsAPermutation : Obligations.GeneratedSequenceIsAPermutation :=
  fun u _ hpos hn => hopGenerate_isPermOf u hpos hn

/-! ## One cycle of the index -/

/-- The entries of a permutation, as numbers, are `0..n-1` in some order: distinct, and as many. -/
theorem map_toNat_perm_range {n : Nat} {seq : List Byte} (h : IsPermOf n seq) :
    (seq.map BitVec.toNat).Perm (List.range n) := by
  obtain ⟨hlen, hnodup, hlt⟩ := h
  have hsub : seq.map BitVec.toNat ⊆ List.range n := by
    intro k hk
    obtain ⟨c, hc, rfl⟩ := List.mem_map.1 hk
    exact List.mem_range.2 (hlt c hc)
  have hnodup' : (seq.map BitVec.toNat).Nodup := hnodup.map fun _ _ => BitVec.eq_of_toNat_eq
  exact (List.subperm_of_subset hnodup' hsub).perm_of_length_le (by simp [hlen])

/-- Reading a list at each of its indices gives the list. -/
theorem map_getD_range {α : Type} (l : List α) (d : α) :
    (List.range l.length).map (fun i => l.getD i d) = l :=
  List.ext_getElem (by simp) fun i _ hi => by simp [hi]

/-- Over one cycle the index reads `CHAN_TABLE` at the entries of the sequence (R145). -/
theorem map_hopFrequency_range (s : State) (hlen : s.seq.length = s.cfg.hopN) :
    (List.range s.cfg.hopN).map s.hopFrequency =
      (s.seq.map BitVec.toNat).map (s.cfg.chanTable.getD · 0) := by
  calc (List.range s.cfg.hopN).map s.hopFrequency
      = ((List.range s.seq.length).map s.seqAt).map (chanAt s.cfg) := by
        rw [hlen, List.map_map]
        rfl
    _ = s.seq.map (chanAt s.cfg) := congrArg _ (map_getD_range s.seq 0)
    _ = (s.seq.map BitVec.toNat).map (s.cfg.chanTable.getD · 0) := by
        rw [List.map_map]
        rfl

/-- R144 (c): the hop frequencies of one cycle are `CHAN_TABLE` in another order. -/
theorem State.Inv.cycle_perm {s : State} (h : s.Inv) :
    ((List.range s.cfg.hopN).map s.hopFrequency).Perm s.cfg.chanTable := by
  obtain ⟨hlen, _⟩ := h.perm
  have hshuffle : ((s.seq.map BitVec.toNat).map (s.cfg.chanTable.getD · 0)).Perm
      ((List.range s.cfg.hopN).map (s.cfg.chanTable.getD · 0)) := (map_toNat_perm_range h.perm).map _
  rwa [← map_hopFrequency_range s hlen, map_getD_range] at hshuffle

/-- The channels of the table are distinct (R267). -/
theorem chanTable_nodup (cfg : Config) : cfg.chanTable.Nodup := by
  obtain ⟨_, hnodup, _⟩ := cfg.valid
  exact hnodup

/-- Settles O55: the cycle is a rearrangement of `CHAN_TABLE`, so it is free of repeats as the table is, and
holds what the table holds. -/
theorem everyChannelOncePerCycle : Obligations.EveryChannelOncePerCycle := by
  intro s hinv
  have hcycle := hinv.cycle_perm
  constructor
  · intro i j hi hj heq
    have hnodup := hcycle.nodup_iff.2 (chanTable_nodup s.cfg)
    exact List.inj_on_of_nodup_map hnodup (List.mem_range.2 hi) (List.mem_range.2 hj) heq
  · intro f hf
    obtain ⟨i, hi, hfreq⟩ := List.mem_map.1 (hcycle.mem_iff.2 hf)
    exact ⟨i, List.mem_range.1 hi, hfreq⟩

/-! ## Advancing the index -/

theorem advances_succ (s : State) (k : Nat) : advances s (k + 1) = (advances s k).hopAdvance :=
  Function.iterate_succ_apply' _ _ _

/-- Advances write `HOP_IDX` and nothing else (R146). -/
theorem advances_frame (s : State) (k : Nat) :
    advances s k = { s with hopIdx := (advances s k).hopIdx } := by
  induction k with
  | zero => rfl
  | succ k ih =>
    rw [advances_succ, ih]
    rfl

theorem advances_cfg (s : State) (k : Nat) : (advances s k).cfg = s.cfg := by rw [advances_frame]

/-- Each advance adds one to the index, and reducing at each of them is reducing once (R146). -/
theorem advances_hopIdx_toNat (s : State) (k : Nat) (h : s.hopIdx.toNat < s.cfg.hopN) :
    (advances s k).hopIdx.toNat = (s.hopIdx.toNat + k) % s.cfg.hopN := by
  induction k with
  | zero => exact (Nat.mod_eq_of_lt h).symm
  | succ k ih => rw [advances_succ, hopAdvance_toNat, advances_cfg, ih, Nat.mod_add_mod, Nat.add_assoc]

/-- Settles O56, by induction on the number of advances, for the index and for the rest of the state. -/
theorem hopAdvancesModuloTheLength : Obligations.HopAdvancesModuloTheLength :=
  fun s k h => ⟨advances_hopIdx_toNat s k h, advances_frame s k⟩

/-! ## The worked example -/

/-- Settles O54: the shuffle of R142, evaluated at REFCFG's identity and its eight channels. -/
theorem referenceSequenceAsWorked : Obligations.ReferenceSequenceAsWorked := by
  unfold Obligations.ReferenceSequenceAsWorked
  decide +kernel

end Sys2Proof.Machine

/-! The lock loop (`42_lock_loop.md`): the filter is exact in its 32 bits and a constant sample makes it
converge (R156, R157), the correction step saturates (R162, R163), and the phase correction and the statistics
use the filter on samples that fit it (R159, R166). -/

namespace Sys2Proof.Machine

/-! ## Division toward zero -/

/-- Division by a window takes a number toward 0, and not past it. -/
theorem tdiv_between_zero_and_self (d : Int) (w : Nat) : min d 0 ≤ d.tdiv w ∧ d.tdiv w ≤ max d 0 := by
  rcases Int.le_total 0 d with h | h
  · have hnonneg := Int.tdiv_nonneg h (Int.natCast_nonneg w)
    have hle := Int.tdiv_le_self (w : Int) h
    omega
  · have hnonneg := Int.tdiv_nonneg (Int.neg_nonneg_of_nonpos h) (Int.natCast_nonneg w)
    have hle := Int.tdiv_le_self (w : Int) (Int.neg_nonneg_of_nonpos h)
    rw [Int.neg_tdiv] at hnonneg hle
    omega

/-- Taking the quotient away takes the magnitude's quotient from the magnitude, on either side of 0. -/
theorem abs_sub_tdiv (d : Int) (w : Nat) : |d - d.tdiv w| = |d| - |d| / w := by
  have hbetween := tdiv_between_zero_and_self d w
  rcases Int.le_total 0 d with h | h
  · rw [abs_of_nonneg h, abs_of_nonneg (by omega), Int.tdiv_eq_ediv_of_nonneg h]
  · have hquot := Int.tdiv_eq_ediv_of_nonneg (b := w) (Int.neg_nonneg_of_nonpos h)
    rw [Int.neg_tdiv] at hquot
    rw [abs_of_nonpos h, abs_of_nonpos (by omega), ← hquot]
    omega

/-! ## One update of a filter -/

/-- A register of at most 32 bits, read as two's complement, is a sample (R156). -/
theorem fits32_toInt {n : Nat} (x : BitVec n) (hn : n ≤ 32) : Fits32 x.toInt := by
  have hpow : (2 : Int) ^ n ≤ 2 ^ 32 := pow_le_pow_right₀ (by decide) hn
  have hlow := BitVec.le_two_mul_toInt (x := x)
  have hhigh := BitVec.two_mul_toInt_lt (x := x)
  constructor <;> omega

/-- What fits 32 bits is stored as it is. -/
theorem toInt_ofInt_of_fits32 {x : Int} (h : Fits32 x) : (BitVec.ofInt 32 x).toInt = x :=
  BitVec.toInt_ofInt_eq_self (by decide) h.1 h.2

/-- The filter's value over the integers lies between the register and the sample, so the 32 bits hold it
(R156). -/
theorem filter_toInt (v : Word32) {x : Int} (w : Nat) (hx : Fits32 x) :
    (filter v x w).toInt = v.toInt + (x - v.toInt).tdiv w := by
  have hv := fits32_toInt v le_rfl
  have hbetween := tdiv_between_zero_and_self (x - v.toInt) w
  exact toInt_ofInt_of_fits32 (by unfold tdiv; omega)

/-- Settles O46: the value is exact, and its distance from `v` is a quotient of the sample's distance. -/
theorem filterStaysBetweenValueAndSample : Obligations.FilterStaysBetweenValueAndSample := by
  intro v x w hx _
  have hbetween := tdiv_between_zero_and_self (x - v.toInt) w
  rw [filter_toInt v w hx]
  exact ⟨rfl, by omega, by omega⟩

/-! ## A filter fed a constant sample -/

section ConstantSample
variable {v : Word32} {e : Int} {w k : Nat}

/-- One update takes the error's quotient by the window from the error (R157). -/
theorem filterError_succ (he : Fits32 e) :
    filterError v e w (k + 1) = filterError v e w k - (filterError v e w k).tdiv w := by
  simp only [filterError, Function.iterate_succ_apply', filter_toInt _ w he]
  omega

/-- No update takes the error past 0 (R157). -/
theorem filterError_keeps_sign (he : Fits32 e) :
    (0 ≤ filterError v e w 0 → 0 ≤ filterError v e w k) ∧
      (filterError v e w 0 ≤ 0 → filterError v e w k ≤ 0) := by
  induction k with
  | zero => exact ⟨id, id⟩
  | succ k ih =>
    obtain ⟨hnonneg, hnonpos⟩ := ih
    have hbetween := tdiv_between_zero_and_self (filterError v e w k) w
    rw [filterError_succ he]
    exact ⟨fun h => by have := hnonneg h; omega, fun h => by have := hnonpos h; omega⟩

/-- The magnitude of the error loses its own quotient by the window (R157). -/
theorem abs_filterError_succ (he : Fits32 e) :
    |filterError v e w (k + 1)| = |filterError v e w k| - |filterError v e w k| / w := by
  rw [filterError_succ he, abs_sub_tdiv]

theorem abs_filterError_succ_le (he : Fits32 e) :
    |filterError v e w (k + 1)| ≤ |filterError v e w k| := by
  have hquot := Int.ediv_nonneg (abs_nonneg (filterError v e w k)) (Int.natCast_nonneg w)
  rw [abs_filterError_succ he]
  omega

/-- An error of at least the window has a quotient of at least 1 (R157). -/
theorem abs_filterError_succ_lt (he : Fits32 e) (hw : 1 ≤ w) (h : (w : Int) ≤ |filterError v e w k|) :
    |filterError v e w (k + 1)| + 1 ≤ |filterError v e w k| := by
  have hquot : 1 ≤ |filterError v e w k| / w := (Int.le_ediv_iff_mul_le (by omega)).2 (by omega)
  rw [abs_filterError_succ he]
  omega

/-- Each update takes 1 from an error of at least the window, and a smaller one stays small (R157). -/
theorem abs_filterError_le (he : Fits32 e) (hw : 1 ≤ w) :
    |filterError v e w k| ≤ max ((w : Int) - 1) (|filterError v e w 0| - k) := by
  induction k with
  | zero => simp
  | succ k ih =>
    have hle : |filterError v e w (k + 1)| ≤ |filterError v e w k| := abs_filterError_succ_le he
    rcases Int.lt_or_le |filterError v e w k| w with hsmall | hlarge
    · omega
    · have hlt := abs_filterError_succ_lt he hw hlarge
      omega

/-- An error below the window has quotient 0: the filter has settled (R157). -/
theorem filterError_succ_of_settled (he : Fits32 e) (h : |filterError v e w k| ≤ w - 1) :
    filterError v e w (k + 1) = filterError v e w k := by
  rw [Int.abs_eq_natAbs] at h
  have hquot : (filterError v e w k).tdiv w = 0 := by
    rw [← Int.natAbs_eq_zero, Int.natAbs_tdiv]
    exact Nat.div_eq_of_lt (by omega)
  rw [filterError_succ he, hquot, Int.sub_zero]

end ConstantSample

/-- Settles O47: every clause speaks of the quotient that an update takes from the error. -/
theorem filterConverges : Obligations.FilterConverges := by
  intro v e w k he hw
  obtain ⟨hnonneg, hnonpos⟩ := filterError_keeps_sign (v := v) (w := w) (k := k) he
  refine ⟨hnonneg, hnonpos, abs_filterError_succ_le he, abs_filterError_succ_lt he hw, ?_,
    filterError_succ_of_settled he⟩
  intro hk
  have hbound : |filterError v e w k| ≤ _ := abs_filterError_le he hw
  omega

/-! ## The correction step -/

/-- Settles O48: from inside the clamp the step is exact, and stays inside it. -/
theorem correctionStepSaturates : Obligations.CorrectionStepSaturates := by
  intro cfg c f hlow hhigh
  have hexact := stepCorrection_toInt cfg c f hlow hhigh
  refine ⟨fun hpos => ?_, fun hneg => ?_, fun hzero => ?_, stepCorrection_in_clamp cfg c f hlow hhigh⟩
  · rw [hexact, if_pos hpos]
  · rw [hexact, if_neg hneg.not_gt, if_pos hneg]
  · exact BitVec.eq_of_toInt_eq (by simp [hexact, hzero])

/-! ## The phase correction -/

/-- The invariants keep the current profile a valid one (R9, R38 (c)). -/
theorem State.Inv.profile_valid {s : State} (h : s.Inv) : s.profile.Valid := by
  obtain ⟨_, _, _, _, _, hprofiles, _⟩ := s.cfg.valid
  have hmem : s.profile ∈ s.cfg.profiles := by
    rw [State.profile, profileAt, List.getD_eq_getElem _ _ h.profile]
    exact List.getElem_mem h.profile
  exact hprofiles _ hmem

/-- An offset reduced modulo the frame interval, less half of it (R159). -/
theorem phaseSample_range {s : State} (h : s.Inv) (tRx : Time) :
    -((s.profile.frameIntervalUs.toNat / 2 : Nat) : Int) ≤ phaseSample s tRx ∧
      phaseSample s tRx <
        (s.profile.frameIntervalUs.toNat : Int) - ((s.profile.frameIntervalUs.toNat / 2 : Nat) : Int) := by
  obtain ⟨hpos, _⟩ := h.profile_valid
  have hmod := Nat.mod_lt (tRx - s.lastTickTs).toNat hpos
  unfold phaseSample
  omega

theorem phaseSample_fits32 {s : State} (h : s.Inv) (tRx : Time) : Fits32 (phaseSample s tRx) := by
  obtain ⟨_, hle⟩ := h.profile_valid
  obtain ⟨hlow, hhigh⟩ := phaseSample_range h tRx
  constructor <;> omega

/-- The model's operand reads and the words of R159 compute the same sample. -/
theorem phaseError_eq_phaseSample (s : State) (tRx : Time) : s.phaseError tRx = phaseSample s tRx := rfl

/-- Settles O49: the sample fits the filter, and the shift, a quotient of a 32-bit value, fits its operand. -/
theorem phaseCorrectionIsExact : Obligations.PhaseCorrectionIsExact := by
  intro s tRx hinv
  obtain ⟨hlow, hhigh⟩ := phaseSample_range hinv tRx
  have hvalue : (s.phaseCorrect tRx).phaseF.toInt =
      s.phaseF.toInt + (phaseSample s tRx - s.phaseF.toInt).tdiv s.cfg.wPhase := by
    rw [phaseCorrect_phaseF, phaseError_eq_phaseSample]
    exact filter_toInt _ _ (phaseSample_fits32 hinv tRx)
  have hshift : Fits32 ((s.phaseCorrect tRx).phaseF.toInt.tdiv s.cfg.phaseDiv) := by
    have hreg := fits32_toInt (s.phaseCorrect tRx).phaseF le_rfl
    have hbetween := tdiv_between_zero_and_self (s.phaseCorrect tRx).phaseF.toInt s.cfg.phaseDiv
    omega
  exact ⟨hlow, hhigh, hvalue, _, toInt_ofInt_of_fits32 hshift, rfl⟩

/-! ## The statistics -/

/-- Settles O50: samples of 16 and of 8 bits fit the filter, in every state. -/
theorem statisticsAreExact : Obligations.StatisticsAreExact := by
  intro s rssi snr
  refine ⟨?_, ?_, rfl⟩
  · rw [statsUpdate_rssiF, filter_toInt _ _ (fits32_toInt rssi (by decide))]
  · rw [statsUpdate_snrF, filter_toInt _ _ (fits32_toInt snr (by decide))]

end Sys2Proof.Machine

/-! The link quality (`43_link_quality.md`): the window as a count of hits (R177), and what recording a slot,
hence a TICK, does to that count (R176, R181). -/

namespace Sys2Proof.Machine

/-! ## The window -/

/-- Replacing an entry changes the count by the difference of the new and the replaced one. -/
theorem count_true_set {n : Nat} (w : Vector Bool n) (hit : Bool) (i : Fin n) :
    (w.set i hit).count true + (w[i]).toNat = w.count true + hit.toNat := by
  rw [Vector.count_set]
  cases hold : w[i] with
  | false => cases hit <;> simp
  | true =>
    have hpos : 0 < w.count true := Vector.count_pos_iff.2 (hold ▸ Vector.getElem_mem i.isLt)
    cases hit <;> simp <;> omega

/-! ## The quality -/

/-- `LQ()` counts the hits of the window (R177). -/
theorem lq_eq_count (s : State) : s.lq = s.lqw.count true := by
  rw [lq_eq_hits, State.hits, Vector.count_toList]

/-- Full quality is a window of hits alone. -/
theorem lq_eq_100_iff (s : State) : s.lq = 100 ↔ s.lqw = Vector.replicate 100 true := by
  rw [lq_eq_count, Vector.count_eq_size, Vector.eq_replicate_iff]
  simp only [eq_comm]

/-- `LQ_Record` moves the quality by the difference of the recorded and the replaced entry (R176). -/
theorem lqRecord_lq (s : State) (hit : Bool) :
    (s.lqRecord hit).lq + (s.lqw[s.lqCursor]).toNat = s.lq + hit.toNat := by
  rw [lq_eq_count, lq_eq_count, lqRecord_lqw]
  exact count_true_set s.lqw hit s.lqCursor

/-- An emptied window has quality 0 (R178). -/
theorem lqReset_lq (s : State) : s.lqReset.lq = 0 := by
  rw [lq_eq_count, lqReset_lqw, Vector.count_replicate]
  rfl

/-- A TICK records its slot in the window and touches it nowhere else (R207, R211). -/
theorem tick_lqw (s : State) (now : Time) (fe : Word32) :
    (s.tick now fe).lqw = (s.lqRecord s.frameSeen).lqw := by
  simp [State.tick]

/-- The quality after a TICK is that after its record (R181). -/
theorem tick_lq (s : State) (now : Time) (fe : Word32) :
    (s.tick now fe).lq = (s.lqRecord s.frameSeen).lq := by
  rw [lq_eq_count, lq_eq_count, tick_lqw]

/-- Settles O51: the record of the slot is the one change of the window, and the quality is its count of hits. -/
theorem linkQualityCountsTheWindow : Obligations.LinkQualityCountsTheWindow := by
  intro s now fe
  refine ⟨⟨s.tick now fe, rfl, ?_⟩, ?_, lq_eq_100_iff s, lqReset_lq s⟩
  · rw [tick_lq]
    exact lqRecord_lq s s.frameSeen
  · exact (lq_eq_hits s).trans_le (hits_le s)

end Sys2Proof.Machine

/-! The link state machine (`44_connection_fsm.md`): what a SYNC, a frame, a poll and a step do to
`LINK_STATE`, and the link signals that go with it (R186 to R198). -/

namespace Sys2Proof.Machine

/-! ## SYNC -/

/-- The three things an accepted SYNC can do to the link: open it (R188), confirm it (R189, R194) or leave it,
which it never does in Disconnected, and in Tentative only on a wrong prediction (R190). -/
theorem onSync_link_cases (s : State) (hop nonce prof : Byte) (tRx : Time) :
    let t := s.onSync hop nonce prof tRx
    (s.linkState = .disconnected ∧ t.linkState = .tentative ∧
      t.scanAnchorTs = s.scanAnchorTs ∧ t.out.cmds = s.out.cmds) ∨
    ((s.linkState = .tentative ∧ nonce = s.nonce ∧ hop = s.hopIdx) ∧ t.linkState = .connected ∧
      t.scanAnchorTs = tRx ∧ t.out.cmds = s.out.cmds ++ [.signalLinkUp]) ∨
    (s.linkState ≠ .disconnected ∧ ¬(s.linkState = .tentative ∧ nonce = s.nonce ∧ hop = s.hopIdx) ∧
      t.linkState = s.linkState ∧ t.scanAnchorTs = s.scanAnchorTs ∧ t.out.cmds = s.out.cmds) := by
  rw [onSync_eq]
  by_cases hd : s.linkState = .disconnected
  · simp [hd]
  · by_cases hp : s.linkState = .tentative ∧ nonce = s.nonce ∧ hop = s.hopIdx
    · simp [hp]
    · simp [hd, hp]

/-- A SYNC loads the carried hop byte reduced modulo `HOP_N` (R191). -/
theorem onSync_hopIdx_toNat (s : State) (hop nonce prof : Byte) (tRx : Time) :
    (s.onSync hop nonce prof tRx).hopIdx.toNat = hop.toNat % s.cfg.hopN := by
  rw [onSync_eq]
  exact hopSetIndex_toNat s hop

/-- The registers and the output that a SYNC may write; it leaves the others (R187, R191). -/
theorem onSync_frame (s : State) (hop nonce prof : Byte) (tRx : Time) :
    let t := s.onSync hop nonce prof tRx
    t = { s with
      nonce := t.nonce, hopIdx := t.hopIdx, syncProfile := t.syncProfile, linkState := t.linkState,
      scanAnchorTs := t.scanAnchorTs, out := { s.out with cmds := t.out.cmds } } := by
  rw [onSync_eq]

/-- Settles O14: the three cases of the link, each with the same load of the schedule. -/
theorem syncMovesTheLinkAndLoadsTheSchedule : Obligations.SyncMovesTheLinkAndLoadsTheSchedule := by
  intro s hop nonce prof
  have hframe := onSync_frame s hop nonce prof s.lastValidTs
  refine ⟨s.onSync hop nonce prof s.lastValidTs, rfl, loadSchedule_nonce .., onSync_hopIdx_toNat ..,
    loadSchedule_syncProfile .., ?_⟩
  rcases onSync_link_cases s hop nonce prof s.lastValidTs with
    ⟨hs, ht, hanchor, hcmds⟩ | ⟨⟨hs, hn, hh⟩, ht, hanchor, hcmds⟩ | ⟨hs, hp, ht, hanchor, hcmds⟩
  · exact ⟨fun _ => ht, by simp [hs], by simp [hs], by simp [hs], by simp [hs, hanchor, hcmds], hframe⟩
  · exact ⟨by simp [hs], fun _ _ _ => ht, by simp [hn, hh], fun _ => ht,
      by simp [hs, ht, hanchor, hcmds], hframe⟩
  · have hunconfirmed : ¬(s.linkState = .tentative ∧
        (s.onSync hop nonce prof s.lastValidTs).linkState = .connected) :=
      fun ⟨ha, hb⟩ => nomatch ha.symm.trans (ht.symm.trans hb)
    exact ⟨fun h => absurd h hs, fun hl hn hh => absurd ⟨hl, hn, hh⟩ hp, fun h _ => ht.trans h, ht.trans,
      by simpa only [if_neg hunconfirmed] using ⟨hanchor, hcmds⟩, hframe⟩

/-! ## Link signals in a command list -/

/-- The two commands that report a change of the link (R52). -/
def isLinkSignal : Cmd → Bool
  | .signalLinkUp | .signalLinkDown => true
  | _ => false

/-- The link signals of a command list, in order. -/
def linkSignals (l : List Cmd) : List Cmd := l.filter isLinkSignal

theorem linkUp_mem_iff (l : List Cmd) : Cmd.signalLinkUp ∈ l ↔ Cmd.signalLinkUp ∈ linkSignals l := by
  simp [linkSignals, isLinkSignal]

theorem linkDown_mem_iff (l : List Cmd) : Cmd.signalLinkDown ∈ l ↔ Cmd.signalLinkDown ∈ linkSignals l := by
  simp [linkSignals, isLinkSignal]

@[simp] theorem linkSignals_nil : linkSignals [] = [] := rfl

@[simp] theorem linkSignals_append (l m : List Cmd) : linkSignals (l ++ m) = linkSignals l ++ linkSignals m :=
  List.filter_append l m

@[simp] theorem linkSignals_cons (c : Cmd) (l : List Cmd) :
    linkSignals (c :: l) = if isLinkSignal c then c :: linkSignals l else linkSignals l :=
  List.filter_cons

/-- The hop emits no link signal (R209). -/
@[simp] theorem hopAction_linkSignals (s : State) (fe : Word32) :
    linkSignals (s.hopAction fe).out.cmds = linkSignals s.out.cmds := by
  cases hd : s.hopDue with
  | false => rw [hopAction_neg s fe hd]
  | true => simp [hopAction_pos s fe hd, isLinkSignal]

/-- The telemetry reply emits no link signal (R210). -/
@[simp] theorem tlmAction_linkSignals (s : State) :
    linkSignals s.tlmAction.out.cmds = linkSignals s.out.cmds := by
  cases hd : s.tlmDue with
  | false => rw [tlmAction_neg s hd]
  | true => simp [tlmAction_pos s hd, isLinkSignal]

/-- The rate scan emits no link signal (R222). -/
@[simp] theorem rateScan_linkSignals (s : State) (now : Time) (en : Bool) :
    linkSignals (s.rateScan now en).out.cmds = linkSignals s.out.cmds := by
  cases hd : s.scanDue now en with
  | false => rw [rateScan_neg s now en hd]
  | true => simp [rateScan_pos s now en hd, setProfile_eq, isLinkSignal]

/-- Dropping the link signals link down (R193). -/
theorem enterDisconnected_linkSignals (s : State) :
    linkSignals s.enterDisconnected.out.cmds = linkSignals s.out.cmds ++ [.signalLinkDown] := by
  simp [enterDisconnected_eq, isLinkSignal]

/-! ## The four events -/

/-- One row of the transition table as a step takes it (R186): the line acknowledged, the link before and
after, and the link signals emitted. -/
inductive LinkRow : Option EventKind → LinkState → LinkState → List Cmd → Prop where
  /-- no transition: every event but RESET, and the idle step -/
  | stays (k : Option EventKind) (l : LinkState) (h : k ≠ some .rst) : LinkRow k l l []
  /-- RESET, from every state (R265) -/
  | reset (l : LinkState) : LinkRow (some .rst) l .disconnected []
  /-- the first SYNC (R188) -/
  | opens : LinkRow (some .rx) .disconnected .tentative []
  /-- a predicted SYNC (R189, R194) -/
  | confirms : LinkRow (some .rx) .tentative .connected [.signalLinkUp]
  /-- a timeout (R192, R193) -/
  | drops (l : LinkState) (h : l ≠ .disconnected) :
      LinkRow (some .poll) l .disconnected [.signalLinkDown]

/-- TICK leaves the link and signals nothing about it (R198). -/
theorem tick_linkRow (s : State) (now : Time) (fe : Word32) :
    LinkRow (some .tick) s.linkState (s.tick now fe).linkState (linkSignals (s.tick now fe).out.cmds) := by
  simpa [State.tick] using LinkRow.stays (some .tick) s.linkState nofun

/-- FRAME_RX moves the link on an accepted SYNC alone (R197), and signals exactly the move to Connected. -/
theorem frameRx_link_cases (s : State) (tRx : Time) (b : Frame) (rssi : BitVec 16) (snr : BitVec 8) :
    let t := s.frameRx tRx b rssi snr
    (t.linkState = s.linkState ∧ linkSignals t.out.cmds = []) ∨
    ∃ hop nonce prof, decodeFrame s.cfg b = .ok (.sync hop nonce prof) ∧
      ((s.linkState = .disconnected ∧ t.linkState = .tentative ∧ linkSignals t.out.cmds = []) ∨
        ((s.linkState = .tentative ∧ nonce = s.nonce ∧ hop = s.hopIdx) ∧ t.linkState = .connected ∧
          linkSignals t.out.cmds = [.signalLinkUp])) := by
  cases hd : decodeFrame s.cfg b with
  | error k => simp [frameRx_error s tRx b rssi snr k hd]
  | ok f =>
    rw [frameRx_ok s tRx b rssi snr f hd]
    cases f with
    | rcData | switchData | telemetry => simp [State.frameAction, isLinkSignal]
    | sync hop nonce prof =>
      rcases onSync_link_cases ((s.beginEvent .rx).acceptFrame tRx rssi snr) hop nonce prof tRx with
        ⟨hs, ht, _, hcmds⟩ | ⟨hs, ht, _, hcmds⟩ | ⟨_, _, ht, _, hcmds⟩
      · exact .inr ⟨hop, nonce, prof, rfl, .inl ⟨hs, ht, by simp [State.frameAction, hcmds, isLinkSignal]⟩⟩
      · exact .inr ⟨hop, nonce, prof, rfl, .inr ⟨hs, ht, by simp [State.frameAction, hcmds, isLinkSignal]⟩⟩
      · exact .inl ⟨ht, by simp [State.frameAction, hcmds, isLinkSignal]⟩

/-- Settles O25, from what FRAME_RX can do to the link. -/
theorem onlySyncFramesMoveTheLink : Obligations.OnlySyncFramesMoveTheLink := by
  intro s tRx b rssi snr
  refine ⟨s.frameRx tRx b rssi snr, rfl, fun hmoved => ?_⟩
  rcases frameRx_link_cases s tRx b rssi snr with
    ⟨hstays, _⟩ | ⟨hop, nonce, prof, hd, ⟨hs, ht, _⟩ | ⟨⟨hs, hn, hh⟩, ht, _⟩⟩
  · exact absurd hstays hmoved
  · exact ⟨hop, nonce, prof, hd, .inl ⟨hs, ht⟩⟩
  · exact ⟨hop, nonce, prof, hd, .inr ⟨hs, ht, hn, hh⟩⟩

/-- FRAME_RX takes a row of the table: a SYNC's or none. -/
theorem frameRx_linkRow (s : State) (tRx : Time) (b : Frame) (rssi : BitVec 16) (snr : BitVec 8) :
    LinkRow (some .rx) s.linkState (s.frameRx tRx b rssi snr).linkState
      (linkSignals (s.frameRx tRx b rssi snr).out.cmds) := by
  rcases frameRx_link_cases s tRx b rssi snr with
    ⟨ht, hc⟩ | ⟨_, _, _, _, ⟨hs, ht, hc⟩ | ⟨⟨hs, _, _⟩, ht, hc⟩⟩
  · rw [ht, hc]
    exact .stays _ _ nofun
  · rw [hs, ht, hc]
    exact .opens
  · rw [hs, ht, hc]
    exact .confirms

/-- POLL drops a live link that timed out, or leaves the link (R192). -/
theorem poll_linkRow (s : State) (now : Time) (en : Bool) :
    LinkRow (some .poll) s.linkState (s.poll now en).linkState (linkSignals (s.poll now en).out.cmds) := by
  cases hd : (s.beginEvent .poll).timedOut now with
  | false =>
    simpa [State.poll, checkTimeout_neg (s.beginEvent .poll) now hd] using
      LinkRow.stays (some .poll) s.linkState nofun
  | true =>
    obtain ⟨hlive, _⟩ := (poll_timedOut s now).1 hd
    simpa [State.poll, checkTimeout_pos (s.beginEvent .poll) now hd, enterDisconnected_linkSignals] using
      LinkRow.drops s.linkState hlive

/-! ## Steps -/

/-- Every step takes a row of the table (R198). -/
theorem step_linkRow (s t : State) (h : step s = .next t) :
    LinkRow t.out.ack s.linkState t.linkState (linkSignals t.out.cmds) := by
  obtain ⟨u, r, e, rfl, hcase⟩ := step_inversion s t h
  rcases hcase with ⟨n, rfl⟩ | ⟨n, f, rfl⟩ | ⟨a, b, c, d, rfl⟩ | ⟨a, b, rfl⟩ | rfl
  · exact .reset _
  · rw [tick_ack]
    exact tick_linkRow { s with req := r, env := e } n f
  · rw [frameRx_ack]
    exact frameRx_linkRow { s with req := r, env := e } a b c d
  · rw [poll_ack]
    exact poll_linkRow { s with req := r, env := e } a b
  · exact .stays _ _ nofun

/-- Each row is one that the table of R186 has for its event. -/
theorem LinkRow.mayMove {k : EventKind} {a b : LinkState} {l : List Cmd} (h : LinkRow (some k) a b l) :
    mayMove k a b = true := by
  cases h with
  | stays _ _ hk =>
    cases k with
    | rst => exact absurd rfl hk
    | tick | rx | poll => cases a <;> rfl
  | reset => rfl
  | opens => rfl
  | confirms => rfl
  | drops _ ha =>
    cases a with
    | disconnected => exact absurd rfl ha
    | tentative | connected => rfl

/-- With no line acknowledged the link stays. -/
theorem LinkRow.eq_of_idle {a b : LinkState} {l : List Cmd} (h : LinkRow none a b l) : b = a := by
  cases h
  rfl

/-- Link up stands in the row from Tentative to Connected alone (R194). -/
theorem LinkRow.linkUp_mem_iff {k : Option EventKind} {a b : LinkState} {l : List Cmd}
    (h : LinkRow k a b l) : Cmd.signalLinkUp ∈ l ↔ a = .tentative ∧ b = .connected := by
  cases h with
  | stays => cases a <;> simp
  | reset | opens | confirms | drops => simp

/-- Link down stands in the row of a live link's timeout alone (R193). -/
theorem LinkRow.linkDown_mem_iff {k : Option EventKind} {a b : LinkState} {l : List Cmd}
    (h : LinkRow k a b l) :
    Cmd.signalLinkDown ∈ l ↔ k = some .poll ∧ a ≠ .disconnected ∧ b = .disconnected := by
  cases h with
  | stays | reset | opens | confirms => simp
  | drops _ ha => simp [ha]

/-- Settles O42: the row that a step takes is one of the table, and the idle row leaves the link. -/
theorem linkStateMovesAlongTheTable : Obligations.LinkStateMovesAlongTheTable := by
  intro s t hs
  have hrow := step_linkRow s t hs
  cases hack : t.out.ack with
  | none =>
    rw [hack] at hrow
    exact hrow.eq_of_idle
  | some k =>
    rw [hack] at hrow
    exact hrow.mayMove

/-- Settles O45: in the row that a step takes, each signal stands for its transition. -/
theorem linkSignalsMarkTheTransitions : Obligations.LinkSignalsMarkTheTransitions := by
  intro s t hs
  have hrow := step_linkRow s t hs
  exact ⟨(linkUp_mem_iff _).trans hrow.linkUp_mem_iff, (linkDown_mem_iff _).trans hrow.linkDown_mem_iff⟩

end Sys2Proof.Machine

/-! The events (`45_scheduler_events.md`): the commands that each operation with a condition emits, then what
TICK, FRAME_RX and POLL leave in every register and on the output ports (R206 to R226). -/

namespace Sys2Proof.Machine

/-! ## What the operations with a condition emit -/

/-- A hop emits the new correction, the retune to the advanced index and the restart of reception (R209,
R211). -/
theorem hopAction_out (s : State) (fe : Word32) :
    (s.hopAction fe).out = { s.out with
      cmds := s.out.cmds ++
        if s.hopDue then
          [.radioSetFrequencyCorrection (s.hopAction fe).freqCorr,
            .radioSetFrequency (s.hopFrequency (s.hopAction fe).hopIdx.toNat), .radioBeginReceive]
        else [] } := by
  cases hd : s.hopDue with
  | false => simp [hopAction_neg s fe hd]
  | true => simp [hopAction_pos s fe hd]

/-- A due reply is transmitted (R210). -/
theorem tlmAction_out (s : State) :
    s.tlmAction.out =
      { s.out with cmds := s.out.cmds ++ if s.tlmDue then [.radioTransmit s.tlmFrame] else [] } := by
  cases hd : s.tlmDue with
  | false => simp [tlmAction_neg s hd]
  | true => simp [tlmAction_pos s hd]

/-- A timeout emits the four commands of a dropped link (R193). -/
theorem checkTimeout_out (s : State) (now : Time) :
    (s.checkTimeout now).out = { s.out with
      cmds := s.out.cmds ++
        if s.timedOut now then
          [.radioSetFrequencyCorrection 0, .radioSetFrequency (s.hopFrequency 0), .radioBeginReceive,
            .signalLinkDown]
        else [] } := by
  cases hd : s.timedOut now with
  | false => simp [checkTimeout_neg s now hd]
  | true => simp [checkTimeout_pos s now hd, enterDisconnected_eq]

/-- A profile switch emits its three commands, with the values of the profile it leaves (R222). -/
theorem rateScan_out (s : State) (now : Time) (en : Bool) :
    (s.rateScan now en).out = { s.out with
      cmds := s.out.cmds ++
        if s.scanDue now en then
          [.radioConfigure (s.rateScan now en).profile.mod (s.hopFrequency 0) s.cfg.syncWord,
            .timerSetInterval (s.rateScan now en).profile.frameIntervalUs, .radioBeginReceive]
        else [] } := by
  cases hd : s.scanDue now en with
  | false => simp [rateScan_neg s now en hd]
  | true => simp [rateScan_pos s now en hd, setProfile_eq, State.profile]

/-! ## TICK -/

/-! The registers that TICK writes, in terms of the state before it. -/

section TickRegisters

variable (s : State) (now : Time) (fe : Word32)

@[simp] theorem tick_nonce : (s.tick now fe).nonce = s.nonce + 1 := by simp [State.tick]

/-- Only a reply leaves `FRAME_SEEN` set (R207, R210). -/
theorem tick_frameSeen_iff : (s.tick now fe).frameSeen = true ↔ TlmAt s (s.nonce + 1) := by
  rw [← tick_tlmDue s now fe, State.tick, tlmAction_frameSeen]
  simp

theorem tick_freqF :
    (s.tick now fe).freqF =
      if HopAt s (s.nonce + 1) then filter s.freqF fe.toInt s.cfg.wFreq else s.freqF := by
  simp only [← tick_hopDue s now]
  simp [State.tick]

theorem tick_freqCorr :
    (s.tick now fe).freqCorr =
      if HopAt s (s.nonce + 1) then stepCorrection s.cfg s.freqCorr (s.tick now fe).freqF
      else s.freqCorr := by
  simp only [tick_freqF, ← tick_hopDue s now]
  simp +contextual [State.tick]

theorem tick_hopIdx :
    (s.tick now fe).hopIdx = if HopAt s (s.nonce + 1) then s.hopAdvance.hopIdx else s.hopIdx := by
  simp only [← tick_hopDue s now]
  simp [State.tick]

/-- TICK writes no other register and no request line (R206 to R210). -/
theorem tick_frame_eq :
    let t := s.tick now fe
    t = { s with
      lastTickTs := t.lastTickTs, lqw := t.lqw, lqCursor := t.lqCursor, nonce := t.nonce,
      frameSeen := t.frameSeen, freqF := t.freqF, freqCorr := t.freqCorr, hopIdx := t.hopIdx,
      out := t.out } := by
  apply State.ext <;> simp [State.tick]

end TickRegisters

/-- Settles O18, register by register: the tests of the schedule are those of the incremented nonce. -/
theorem tickRegisters : Obligations.TickRegisters := by
  intro s now fe
  refine ⟨s.tick now fe, rfl, ?lastTickTs, tick_lqw s now fe, ?lqCursor, ?nonce,
    ?frameSeen, ?freqF, ?freqCorr, ?hopIdx, tick_frame_eq s now fe⟩
  case lastTickTs => simp [State.tick]
  case lqCursor => simp [State.tick, Fin.val_add]
  case nonce => simp [BitVec.toNat_add]
  case frameSeen => rw [tick_nonce, tick_frameSeen_iff]
  case freqF => rw [tick_nonce, tick_freqF]
  case freqCorr => rw [tick_nonce, tick_freqCorr]
  case hopIdx =>
    rw [tick_nonce, tick_hopIdx]
    split
    · exact hopAdvance_toNat s
    · rfl

/-- The output ports after TICK: the hop's commands and then the reply (R211). -/
theorem tick_out (s : State) (now : Time) (fe : Word32) :
    (s.tick now fe).out = {
      ack := some .tick
      cmds :=
        (if HopAt s (s.nonce + 1) then
          [.radioSetFrequencyCorrection (s.tick now fe).freqCorr,
            .radioSetFrequency (s.hopFrequency (s.tick now fe).hopIdx.toNat), .radioBeginReceive]
        else []) ++
        if TlmAt s (s.nonce + 1) then [.radioTransmit (s.tick now fe).tlmFrame] else []
      rx := none
      enc := none } := by
  simp only [← tick_hopDue s now, ← tick_tlmDue s now fe]
  simp [State.tick, tlmAction_out, hopAction_out, State.hopFrequency, State.seqAt, State.tlmFrame,
    lq_eq_count]

/-- Settles O19: the reply is the one that the state after TICK would build, since nothing that the reply
reads changes after the record. -/
theorem tickCommands : Obligations.TickCommands := by
  intro s now fe
  obtain ⟨_, _, _, _, _, _, hrssi, hsnr, _⟩ := tick_frame s now fe
  have hcfg := tick_cfg s now fe
  refine ⟨s.tick now fe, (s.tick now fe).tlmFrame, rfl, ?out, ?header, ?rssi, ?snr,
    lq_byte_toNat _, rfl, rfl, rfl, ?crc⟩
  case out => rw [tick_out, tick_nonce]; rfl
  case header => rw [← hcfg]; exact mkFrame_header_toNat ..
  case rssi => rw [← hrssi]; exact BitVec.toNat_setWidth ..
  case snr => rw [← hsnr]; exact BitVec.toNat_setWidth ..
  case crc => rw [← hcfg]; rfl

/-- A hop boundary needs a live link, a reply a connected one (R209, R210). -/
theorem HopAt.ne_disconnected {s : State} {n : BitVec 8} (h : HopAt s n) : s.linkState ≠ .disconnected := by
  obtain ⟨_, _, hlive⟩ := h
  exact hlive

theorem TlmAt.eq_connected {s : State} {n : BitVec 8} (h : TlmAt s n) : s.linkState = .connected := by
  obtain ⟨_, _, hconnected⟩ := h
  exact hconnected

/-- Settles O20: in Disconnected neither condition holds, outside Connected that of the reply does not. -/
theorem tickGatedByLinkState : Obligations.TickGatedByLinkState := by
  intro s now fe
  obtain ⟨_, _, _, hlink, _⟩ := tick_frame s now fe
  refine ⟨s.tick now fe, rfl, hlink, fun hdisc => ?_, fun hnot b => ?_⟩
  · have hhop : ¬HopAt s (s.nonce + 1) := fun h => h.ne_disconnected hdisc
    have htlm : ¬TlmAt s (s.nonce + 1) := fun h => nomatch hdisc.symm.trans h.eq_connected
    simp only [tick_out, tick_hopIdx, tick_freqF, tick_freqCorr, if_neg hhop, if_neg htlm]
    simp
  · have htlm : ¬TlmAt s (s.nonce + 1) := fun h => hnot h.eq_connected
    rw [tick_out, if_neg htlm]
    split <;> simp

/-! ## The frame actions -/

/-- Settles O12: the row is one store and one strobe, with no condition. -/
theorem rcDataStoresChannels : Obligations.RcDataStoresChannels :=
  fun _ _ _ _ _ => rfl

/-- Settles O13: the same for the switches; the carried hop index and nonce are operands nothing reads. -/
theorem switchDataStoresSwitches : Obligations.SwitchDataStoresSwitches :=
  fun _ _ _ _ _ _ _ => rfl

/-! ## FRAME_RX -/

/-- Settles O15: the row has no action, and FRAME_RX of such a frame none of its own. -/
theorem inboundTelemetryIsInert : Obligations.InboundTelemetryIsInert :=
  ⟨fun _ _ _ _ _ _ _ => rfl, exec_frameRx_telemetry⟩

/-- Settles O22: `raiseDecodeError` is all that happens. -/
theorem rejectedFrameOnlyCounts : Obligations.RejectedFrameOnlyCounts := by
  intro s tRx b rssi snr k hd
  refine ⟨s.frameRx tRx b rssi snr, rfl, ?_⟩
  rw [frameRx_error s tRx b rssi snr k hd]
  refine ⟨?count, ?result, rfl, rfl⟩
  case count =>
    rw [raiseDecodeError_errCount, beginEvent_errCount, BitVec.toNat_add]
    rfl
  case result => cases k <;> rfl

/-- A parsed frame's instruction is its action, with the arrival time where the common actions put it
(R212, R214). -/
theorem exec_instr (s : State) (f : ParsedFrame) :
    exec f.instr s = .next (s.frameAction f s.lastValidTs) := by
  cases f <;> rfl

/-- Settles O23: the action inside FRAME_RX is the instruction's,
run where `LAST_VALID_TS` is the arrival time. -/
theorem acceptedFrameRunsItsInstruction : Obligations.AcceptedFrameRunsItsInstruction := by
  intro s tRx b rssi snr f hd
  exact ⟨_, exec_instr _ f, congrArg Host.Outcome.next (frameRx_ok s tRx b rssi snr f hd)⟩

/-- Settles O26: between the common actions and the phase correction nothing reads the payload. -/
theorem telemetryPayloadIsNotObservable : Obligations.TelemetryPayloadIsNotObservable := by
  intro s tRx b b' rssi snr hb hb' ht ht'
  have hd := decodeFrame_telemetry s.cfg b hb ht
  have hd' := decodeFrame_telemetry s.cfg b' hb' ht'
  exact ⟨_, _, exec_frameRx_telemetry s tRx b rssi snr _ _ _ _ _ _ hd,
    exec_frameRx_telemetry s tRx b' rssi snr _ _ _ _ _ _ hd', rfl⟩

/-- What the action of a frame leaves to the common actions and the phase correction (R212, R214, R219). -/
theorem frameAction_keeps (s : State) (f : ParsedFrame) (tRx : Time) :
    let t := s.frameAction f tRx
    t.lastValidTs = s.lastValidTs ∧ t.frameSeen = s.frameSeen ∧ t.rssiF = s.rssiF ∧ t.snrF = s.snrF ∧
      t.phaseF = s.phaseF := by
  cases f with
  | rcData | switchData | telemetry => simp [State.frameAction]
  | sync => simp [State.frameAction, onSync_eq]

/-- The phase sample is taken of the tick time and the profile, which a frame's action leaves. -/
theorem frameAction_phaseSample (s : State) (f : ParsedFrame) (tRx : Time) :
    phaseSample (s.frameAction f tRx) tRx = phaseSample s tRx := by
  obtain ⟨hprof, _, _, _, _, htick, _⟩ := frameAction_frame s f tRx
  simp only [phaseSample, State.profile, frameAction_cfg, hprof, htick]

/-- The registers and results that FRAME_RX of an accepted frame writes whatever its type (R214, R219). -/
theorem frameRx_common (s : State) (tRx : Time) (b : Frame) (rssi : BitVec 16) (snr : BitVec 8)
    (f : ParsedFrame) (hd : decodeFrame s.cfg b = .ok f) :
    let t := s.frameRx tRx b rssi snr
    t.lastValidTs = tRx ∧ t.frameSeen = true ∧ t.result = some 0 ∧ t.out.rx = some (.ok f) ∧
      t.rssiF = filter s.rssiF rssi.toInt s.cfg.wRssi ∧ t.snrF = filter s.snrF snr.toInt s.cfg.wSnr ∧
      t.phaseF = filter s.phaseF (phaseSample s tRx) s.cfg.wPhase := by
  obtain ⟨hvalid, hseen, hrssi, hsnr, hphase⟩ :=
    frameAction_keeps ((s.beginEvent .rx).acceptFrame tRx rssi snr) f tRx
  rw [frameRx_ok s tRx b rssi snr f hd]
  refine ⟨hvalid, hseen, rfl, rfl, hrssi, hsnr, ?_⟩
  rw [present_phaseF, phaseCorrect_phaseF, phaseError_eq_phaseSample, frameAction_phaseSample, hphase,
    frameAction_cfg]
  rfl

/-- The commands of an accepted frame: its action's, then the phase correction (R219). -/
theorem frameRx_cmds (s : State) (tRx : Time) (b : Frame) (rssi : BitVec 16) (snr : BitVec 8)
    (f : ParsedFrame) (hd : decodeFrame s.cfg b = .ok f) :
    (s.frameRx tRx b rssi snr).out.cmds =
      (((s.beginEvent .rx).acceptFrame tRx rssi snr).frameAction f tRx).out.cmds ++
        [.timerPhaseShift
          (BitVec.ofInt 32 ((s.frameRx tRx b rssi snr).phaseF.toInt.tdiv s.cfg.phaseDiv))] := by
  rw [frameRx_ok s tRx b rssi snr f hd]
  simp [tdiv]

/-- Settles O24: the common part, and then each type's own registers and commands. -/
theorem acceptedFrameRegisters : Obligations.AcceptedFrameRegisters := by
  intro s tRx b rssi snr f hd
  obtain ⟨hvalid, hseen, hresult, hrx, hrssi, hsnr, hphase⟩ := frameRx_common s tRx b rssi snr f hd
  refine ⟨s.frameRx tRx b rssi snr, rfl, hvalid, hseen, hresult, hrx, hrssi, hsnr, hphase, ?_⟩
  have hcmds := frameRx_cmds s tRx b rssi snr f hd
  have hstate := frameRx_ok s tRx b rssi snr f hd
  cases f with
  | rcData | switchData | telemetry =>
    refine ⟨hcmds, ?_⟩
    rw [hstate]
    rfl
  | sync hop nonce prof =>
    simp only [State.frameAction, onSync_eq] at hcmds hstate
    refine ⟨hcmds, ?hopIdx, ?frame⟩
    case hopIdx =>
      rw [hstate]
      exact hopSetIndex_toNat s hop
    case frame =>
      rw [hstate]
      rfl

/-! ## POLL -/

/-- Settles O27: a drop and a switch write the registers that the rules of `44` and `45` name; where both do,
both clear. -/
theorem pollRegisters : Obligations.PollRegisters := by
  intro s now scan
  have hdrop := poll_timedOut s now
  have hscan := poll_scanDue s now scan
  refine ⟨s.poll now scan, rfl, ?profile, ?frame⟩
  case profile =>
    simp only [State.poll, rateScan_profileIdx, hscan]
    split
    · simp [nextProfile_toNat]
    · simp
  case frame =>
    have heither {α : Type} (x y : α) : (if DropsAt s now ∨ ScansAt s now scan then x else y) =
        if ScansAt s now scan then x else if DropsAt s now then x else y :=
      (if_congr or_comm rfl rfl).trans (ite_or ..)
    simp only [heither]
    simp only [← hdrop, ← hscan]
    apply State.ext <;> simp [State.poll]

/-- The output ports after POLL: the commands of a dropped link, then those of a switch (R223). -/
theorem poll_out (s : State) (now : Time) (scan : Bool) :
    (s.poll now scan).out = {
      ack := some .poll
      cmds :=
        (if DropsAt s now then
          [.radioSetFrequencyCorrection 0, .radioSetFrequency (s.hopFrequency 0), .radioBeginReceive,
            .signalLinkDown]
        else []) ++
        if ScansAt s now scan then
          [.radioConfigure (s.poll now scan).profile.mod (s.hopFrequency 0) s.cfg.syncWord,
            .timerSetInterval (s.poll now scan).profile.frameIntervalUs, .radioBeginReceive]
        else []
      rx := none
      enc := none } := by
  simp only [← poll_timedOut s now, ← poll_scanDue s now scan]
  simp [State.poll, rateScan_out, checkTimeout_out, State.hopFrequency, State.seqAt]

/-- Settles O28: the commands of the two procedures, one after the other. -/
theorem pollCommands : Obligations.PollCommands :=
  fun s now scan => ⟨s.poll now scan, rfl, poll_out s now scan⟩

/-! ## Command lists by code (R226) -/

/-- The codes of a command list, in order (R52). -/
def cmdCodes (l : List Cmd) : List (BitVec 4) := l.map Cmd.code

@[simp] theorem cmdCodes_nil : cmdCodes [] = [] := rfl

@[simp] theorem cmdCodes_cons (c : Cmd) (l : List Cmd) : cmdCodes (c :: l) = c.code :: cmdCodes l := rfl

@[simp] theorem cmdCodes_append (l m : List Cmd) : cmdCodes (l ++ m) = cmdCodes l ++ cmdCodes m :=
  List.map_append

@[simp] theorem cmdCodes_ite (p : Prop) [Decidable p] (l m : List Cmd) :
    cmdCodes (if p then l else m) = if p then cmdCodes l else cmdCodes m :=
  apply_ite cmdCodes p l m

/-- Code 3 is that of `radio.stopReceive`, so a list without the code is without the command (R52). -/
theorem stopReceive_not_mem {l : List Cmd} {ls : List (List (BitVec 4))} (h : cmdCodes l ∈ ls)
    (hls : ∀ codes ∈ ls, 3 ∉ codes) : Cmd.radioStopReceive ∉ l :=
  fun hmem => hls _ h (List.mem_map_of_mem hmem)

/-- RESET's four commands (R265). -/
theorem resetEvent_codes (s : State) (now : Time) : cmdCodes (s.resetEvent now).out.cmds = [0, 5, 6, 2] :=
  rfl

/-- TICK's commands: a hop's, a reply's, both or none (R211). -/
theorem tick_codes (s : State) (now : Time) (fe : Word32) :
    cmdCodes (s.tick now fe).out.cmds ∈ ([[], [5, 1, 2], [4], [5, 1, 2, 4]] : List (List (BitVec 4))) := by
  simp only [tick_out, cmdCodes_append, cmdCodes_ite, cmdCodes_cons, cmdCodes_nil, Cmd.code]
  split <;> split <;> decide

/-- POLL's commands: a dropped link's, a profile switch's, both or none (R223). -/
theorem poll_codes (s : State) (now : Time) (scan : Bool) :
    cmdCodes (s.poll now scan).out.cmds ∈
      ([[], [5, 1, 2, 9], [0, 6, 2], [5, 1, 2, 9, 0, 6, 2]] : List (List (BitVec 4))) := by
  simp only [poll_out, cmdCodes_append, cmdCodes_ite, cmdCodes_cons, cmdCodes_nil, Cmd.code]
  split <;> split <;> decide

/-- The codes that an accepted frame emits in state `s`, by its type: a strobe or link up, then the phase
shift (R215 to R219). -/
def State.frameCodes (s : State) : ParsedFrame → List (BitVec 4)
  | .rcData _ _ _ _ => [10, 7]
  | .switchData _ _ _ _ _ _ => [11, 7]
  | .sync hop nonce _ =>
    if s.linkState = .tentative ∧ nonce = s.nonce ∧ hop = s.hopIdx then [8, 7] else [7]
  | .telemetry _ _ _ _ _ _ => [7]

theorem frameCodes_mem (s : State) (f : ParsedFrame) :
    s.frameCodes f ∈ ([[], [7], [10, 7], [11, 7], [8, 7]] : List (List (BitVec 4))) := by
  cases f with
  | rcData | switchData | telemetry => simp [State.frameCodes]
  | sync =>
    simp only [State.frameCodes]
    split <;> simp

/-- Each type's list ends in the phase shift. -/
theorem frameCodes_ne_nil (s : State) (f : ParsedFrame) : s.frameCodes f ≠ [] := by
  cases f with
  | rcData | switchData | telemetry => simp [State.frameCodes]
  | sync =>
    simp only [State.frameCodes]
    split <;> simp

/-- An accepted frame's commands are those of its type. -/
theorem frameRx_codes (s : State) (tRx : Time) (b : Frame) (rssi : BitVec 16) (snr : BitVec 8)
    (f : ParsedFrame) (hd : decodeFrame s.cfg b = .ok f) :
    cmdCodes (s.frameRx tRx b rssi snr).out.cmds = s.frameCodes f := by
  rw [frameRx_cmds s tRx b rssi snr f hd]
  cases f with
  | rcData | switchData | telemetry => rfl
  | sync =>
    simp only [State.frameAction, onSync_eq, cmdCodes_append, cmdCodes_ite, State.frameCodes,
      acceptFrame_linkState, acceptFrame_nonce, acceptFrame_hopIdx, beginEvent_linkState, beginEvent_nonce,
      beginEvent_hopIdx]
    split <;> rfl

/-- A rejected frame emits nothing (R213). -/
theorem frameRx_cmds_error (s : State) (tRx : Time) (b : Frame) (rssi : BitVec 16) (snr : BitVec 8)
    (k : DecodeError) (hd : decodeFrame s.cfg b = .error k) : (s.frameRx tRx b rssi snr).out.cmds = [] := by
  simp [frameRx_error s tRx b rssi snr k hd]

/-- The result output shows what the frame decodes to (R212). -/
theorem frameRx_rx (s : State) (tRx : Time) (b : Frame) (rssi : BitVec 16) (snr : BitVec 8) :
    (s.frameRx tRx b rssi snr).out.rx = some (decodeFrame s.cfg b) := by
  cases hd : decodeFrame s.cfg b with
  | error k => simp [frameRx_error s tRx b rssi snr k hd]
  | ok f => simp [frameRx_ok s tRx b rssi snr f hd]

/-- From Tentative a SYNC frame connects exactly when it carries the predicted nonce and hop byte (R189). -/
theorem frameRx_connects_iff (s : State) (tRx : Time) (b : Frame) (rssi : BitVec 16) (snr : BitVec 8)
    (hop nonce prof : Byte) (hd : decodeFrame s.cfg b = .ok (.sync hop nonce prof)) :
    (s.linkState = .tentative ∧ (s.frameRx tRx b rssi snr).linkState = .connected) ↔
      s.linkState = .tentative ∧ nonce = s.nonce ∧ hop = s.hopIdx := by
  rw [frameRx_ok s tRx b rssi snr _ hd]
  refine and_congr_right fun htent => ?_
  simp [State.frameAction, onSync_eq, htent]

/-- FRAME_RX's commands, whatever the frame (R226). -/
theorem frameRx_codes_mem (s : State) (tRx : Time) (b : Frame) (rssi : BitVec 16) (snr : BitVec 8) :
    cmdCodes (s.frameRx tRx b rssi snr).out.cmds ∈
      ([[], [7], [10, 7], [11, 7], [8, 7]] : List (List (BitVec 4))) := by
  cases hd : decodeFrame s.cfg b with
  | error k => rw [frameRx_cmds_error s tRx b rssi snr k hd]; decide
  | ok f => rw [frameRx_codes s tRx b rssi snr f hd]; exact frameCodes_mem s f

/-- A frame emits nothing exactly when it is rejected (R213, R219). -/
theorem frameRx_cmds_eq_nil_iff (s : State) (tRx : Time) (b : Frame) (rssi : BitVec 16) (snr : BitVec 8) :
    (s.frameRx tRx b rssi snr).out.cmds = [] ↔
      ∃ k, (s.frameRx tRx b rssi snr).out.rx = some (.error k) := by
  rw [frameRx_rx]
  cases hd : decodeFrame s.cfg b with
  | error k => simp [frameRx_cmds_error s tRx b rssi snr k hd]
  | ok f =>
    have hcodes := frameRx_codes s tRx b rssi snr f hd
    have hne : (s.frameRx tRx b rssi snr).out.cmds ≠ [] := fun h =>
      frameCodes_ne_nil s f (by rw [← hcodes, h]; rfl)
    simp [hne]

/-- Settles O44: each event's commands by their codes, a frame's by its type; code 3 stands in none of the
lists. -/
theorem commandListsPerEvent : Obligations.CommandListsPerEvent := by
  intro s t hs
  obtain ⟨u, r, e, hu, hcase⟩ := step_inversion s t hs
  have hlink : s.linkState = u.linkState := by rw [hu]
  rcases hcase with ⟨now, rfl⟩ | ⟨now, fe, rfl⟩ | ⟨tRx, b, rssi, snr, rfl⟩ | ⟨now, scan, rfl⟩ | rfl
  · exact ⟨by simp [State.resetEvent, State.resetCommands], resetEvent_codes u now⟩
  · have hcodes := tick_codes u now fe
    rw [tick_ack]
    exact ⟨stopReceive_not_mem hcodes (by decide), hcodes⟩
  · have hcodes := frameRx_codes_mem u tRx b rssi snr
    rw [frameRx_ack]
    refine ⟨stopReceive_not_mem hcodes (by decide), hcodes, frameRx_cmds_eq_nil_iff u tRx b rssi snr, ?_⟩
    rw [frameRx_rx]
    cases hd : decodeFrame u.cfg b with
    | error k => exact frameRx_cmds_error u tRx b rssi snr k hd
    | ok f =>
      have hf := frameRx_codes u tRx b rssi snr f hd
      cases f with
      | rcData | switchData | telemetry => exact hf
      | sync hop nonce prof =>
        rw [hlink]
        exact hf.trans (if_congr (frameRx_connects_iff u tRx b rssi snr hop nonce prof hd).symm rfl rfl)
  · have hcodes := poll_codes u now scan
    rw [poll_ack]
    exact ⟨stopReceive_not_mem hcodes (by decide), hcodes⟩
  · exact ⟨List.not_mem_nil, rfl⟩

end Sys2Proof.Machine

/-! The grant points (`60_exceptions.md` rules R244 to R246, R275): triggers and the arbiter as rules about the
request lines, then what a step leaves on them, and that no step stops the block. -/

namespace Sys2Proof.Machine

/-! ## Triggers -/

/-- A trigger asserts its line, or is lost to the request that is pending there (R246, R275). -/
theorem trigger_rst (r : Requests) (now : Time) :
    r.trigger (.rst now) = { r with rst := some (r.rst.getD now) } := by
  obtain ⟨rst, tick, rx, poll⟩ := r
  cases rst with
  | none => rfl
  | some _ => rfl

theorem trigger_tick (r : Requests) (o : TickOps) :
    r.trigger (.tick o) = { r with tick := some (r.tick.getD o) } := by
  obtain ⟨rst, tick, rx, poll⟩ := r
  cases tick with
  | none => rfl
  | some _ => rfl

theorem trigger_rx (r : Requests) (o : RxOps) :
    r.trigger (.rx o) = { r with rx := some (r.rx.getD o) } := by
  obtain ⟨rst, tick, rx, poll⟩ := r
  cases rx with
  | none => rfl
  | some _ => rfl

theorem trigger_poll (r : Requests) (o : PollOps) :
    r.trigger (.poll o) = { r with poll := some (r.poll.getD o) } := by
  obtain ⟨rst, tick, rx, poll⟩ := r
  cases poll with
  | none => rfl
  | some _ => rfl

/-! ## The arbiter -/

section Arbiter

variable {r : Requests}

/-- The lines are tested in the order RESET, TICK, FRAME_RX, POLL (R245). -/
theorem grant_of_rst {now : Time} (hrst : r.rst = some now) : r.grant = some .rst := by
  simp [Requests.grant, hrst]

theorem grant_of_tick {o : TickOps} (hrst : r.rst = none) (htick : r.tick = some o) :
    r.grant = some .tick := by
  simp [Requests.grant, hrst, htick]

theorem grant_of_rx {o : RxOps} (hrst : r.rst = none) (htick : r.tick = none) (hrx : r.rx = some o) :
    r.grant = some .rx := by
  simp [Requests.grant, hrst, htick, hrx]

theorem grant_of_poll {o : PollOps} (hrst : r.rst = none) (htick : r.tick = none) (hrx : r.rx = none)
    (hpoll : r.poll = some o) : r.grant = some .poll := by
  simp [Requests.grant, hrst, htick, hrx, hpoll]

/-- The ports show the granted line's operands under its one-hot vector, which decodes to its event (R95). -/
theorem decodeEvent_ports_rst {now : Time} (hgrant : r.grant = some .rst) (hrst : r.rst = some now) :
    decodeEvent r.ports = .ok (.reset now) := by
  have hports : r.ports = { quietPorts 0b1000 with now := now } := by
    simp [Requests.ports, hgrant, hrst, grantVector]
  rw [hports]
  rfl

theorem decodeEvent_ports_tick {o : TickOps} (hgrant : r.grant = some .tick) (htick : r.tick = some o) :
    decodeEvent r.ports = .ok (.tick o.now o.freqErr) := by
  have hports : r.ports = { quietPorts 0b0001 with now := o.now, freqErr := o.freqErr } := by
    simp [Requests.ports, hgrant, htick, grantVector]
  rw [hports]
  rfl

theorem decodeEvent_ports_rx {o : RxOps} (hgrant : r.grant = some .rx) (hrx : r.rx = some o) :
    decodeEvent r.ports = .ok (.frameRx o.tRx o.b o.rssi o.snr) := by
  have hports : r.ports =
      { quietPorts 0b0010 with tRx := o.tRx, b := o.b, rssi := o.rssi, snr := o.snr } := by
    simp [Requests.ports, hgrant, hrx, grantVector]
  rw [hports]
  rfl

theorem decodeEvent_ports_poll {o : PollOps} (hgrant : r.grant = some .poll) (hpoll : r.poll = some o) :
    decodeEvent r.ports = .ok (.poll o.now o.scanEnable) := by
  have hports : r.ports = { quietPorts 0b0100 with now := o.now, scanEnable := o.scanEnable } := by
    simp [Requests.ports, hgrant, hpoll, grantVector]
  rw [hports]
  rfl

/-- Serving a grant frees the granted line and no other (R46). -/
theorem serve_of_grant_rst (hgrant : r.grant = some .rst) : r.serve = { r with rst := none } := by
  rw [Requests.serve, hgrant]

theorem serve_of_grant_tick (hgrant : r.grant = some .tick) : r.serve = { r with tick := none } := by
  rw [Requests.serve, hgrant]

theorem serve_of_grant_rx (hgrant : r.grant = some .rx) : r.serve = { r with rx := none } := by
  rw [Requests.serve, hgrant]

theorem serve_of_grant_poll (hgrant : r.grant = some .poll) : r.serve = { r with poll := none } := by
  rw [Requests.serve, hgrant]

/-- Idle ports mean that no line is asserted (R95). -/
theorem eq_quiet_of_idle (hidle : decodeEvent r.ports = .error .idle) : r = .quiet := by
  rcases fetch_cases r with
    ⟨_, _, h⟩ | ⟨_, _, _, h⟩ | ⟨_, _, _, _, h⟩ | ⟨_, _, _, _, _, h⟩ | ⟨hquiet, _⟩
  case inr.inr.inr.inr => exact hquiet
  all_goals cases hidle.symm.trans h

end Arbiter

/-- Settles O35: the first asserted line in the order of R245 is granted, and a grant fixes the ports and the
line that is freed. -/
theorem arbiterGrantsByPriority : Obligations.ArbiterGrantsByPriority := by
  intro r
  refine ⟨fun now hrst => ?rst, fun o hrst htick => ?tick, fun o hrst htick hrx => ?rx,
    fun o hrst htick hrx hpoll => ?poll, fun hquiet => ?quiet⟩
  case rst =>
    have hgrant := grant_of_rst hrst
    exact ⟨decodeEvent_ports_rst hgrant hrst, serve_of_grant_rst hgrant⟩
  case tick =>
    have hgrant := grant_of_tick hrst htick
    exact ⟨decodeEvent_ports_tick hgrant htick, serve_of_grant_tick hgrant⟩
  case rx =>
    have hgrant := grant_of_rx hrst htick hrx
    exact ⟨decodeEvent_ports_rx hgrant hrx, serve_of_grant_rx hgrant⟩
  case poll =>
    have hgrant := grant_of_poll hrst htick hrx hpoll
    exact ⟨decodeEvent_ports_poll hgrant hpoll, serve_of_grant_poll hgrant⟩
  case quiet =>
    subst hquiet
    exact ⟨rfl, rfl⟩

/-! ## What a step leaves on the lines -/

/-- Only events are fetched (R69, R95). -/
theorem isEvent_of_fetch {s : State} {i : Instr} (hfetch : s.fetch = .ok i) : isEvent i = true := by
  rcases fetch_event s i hfetch with ⟨_, rfl⟩ | ⟨_, _, rfl⟩ | ⟨_, _, _, _, rfl⟩ | ⟨_, _, rfl⟩ <;> rfl

/-- An event writes no line and no future trigger: by O37 with the lines that `s` already has, its answer is that
answer with those lines put back. -/
theorem exec_event_keeps_lines {i : Instr} {s t : State} (hevent : isEvent i = true)
    (hexec : exec i s = .next t) : t.req = s.req ∧ t.env = s.env := by
  obtain ⟨u, hu, hlines⟩ := eventsDoNotReadTheirSurroundings s i s.out s.req s.env hevent
  have hsame : u = { u with req := s.req, env := s.env } := Host.Outcome.next.inj (hu.symm.trans hlines)
  have htu : t = u := Host.Outcome.next.inj (hexec.symm.trans hu)
  rw [htu, hsame]
  exact ⟨rfl, rfl⟩

/-- A step takes the granted request off the lines, if there is one, and writes them no further (R245, R246). -/
theorem step_lines {s t : State} (hstep : step s = .next t) :
    t.req = s.arrive.req.serve ∧ t.env = s.arrive.env := by
  rcases step_next_cases s t hstep with ⟨i, hfetch, hexec⟩ | ⟨hidle, rfl⟩
  · exact exec_event_keeps_lines (isEvent_of_fetch hfetch) hexec
  · have hquiet : s.arrive.req = .quiet := eq_quiet_of_idle hidle
    rw [idle_req, idle_env, hquiet]
    exact ⟨rfl, rfl⟩

/-- Settles O36: a step serves the lines after arrival, and a trigger writes its own line alone. -/
theorem ungrantedRequestsStayPending : Obligations.UngrantedRequestsStayPending := by
  refine ⟨fun s t hstep => ?_, trigger_rst, trigger_tick, trigger_rx, trigger_poll⟩
  have hlines := step_lines hstep
  rwa [arrive_eq] at hlines

/-! ## Completion -/

/-- Settles O32: every arm of `exec` answers a next state, that of its frame action, encoder or event. -/
theorem everyInstructionCompletes : Obligations.EveryInstructionCompletes := by
  intro i s
  cases i with
  | rcData c0 c1 c2 c3 => exact ⟨s.rcAction ⟨c0, c1, c2, c3⟩, rfl⟩
  | switchData w0 w1 w2 w3 hop nonce => exact ⟨s.switchAction ⟨w0, w1, w2, w3⟩, rfl⟩
  | sync hop nonce profile => exact ⟨s.onSync hop nonce profile s.lastValidTs, rfl⟩
  | telemetry => exact ⟨s, rfl⟩
  | encSync hop nonce prof => exact ⟨s.returnFrame (encSyncFrame s.cfg hop nonce prof), rfl⟩
  | encTlm => exact ⟨s.returnFrame s.tlmFrame, rfl⟩
  | tick now fe => exact ⟨s.tick now fe, rfl⟩
  | frameRx tRx b rssi snr => exact ⟨s.frameRx tRx b rssi snr, rfl⟩
  | poll now en => exact ⟨s.poll now en, rfl⟩
  | reset now => exact ⟨s.resetEvent now, rfl⟩

/-- The arbiter's word is one-hot or idle, so it names an event or nothing (R95). -/
theorem fetch_ok_or_idle (s : State) : (∃ i, s.fetch = .ok i) ∨ s.fetch = .error .idle := by
  rcases fetch_cases s.arrive.req with
    ⟨_, _, h⟩ | ⟨_, _, _, h⟩ | ⟨_, _, _, _, h⟩ | ⟨_, _, _, _, _, h⟩ | ⟨_, hidle⟩
  case inr.inr.inr.inr => exact .inr hidle
  all_goals exact .inl ⟨_, h⟩

/-- Settles O33: what is fetched is an instruction, and each completes (O32), or the idle word, on which the
block idles. -/
theorem everyStepCompletes : Obligations.EveryStepCompletes := by
  intro s
  rcases fetch_ok_or_idle s with ⟨i, hfetch⟩ | hidle
  · rw [step_of_fetch_ok s i hfetch, hfetch]
    exact ⟨nofun, everyInstructionCompletes i s.arrive.serve⟩
  · rw [step_of_fetch_idle s hidle, hidle]
    exact ⟨nofun, s.arrive.idle, rfl⟩

end Sys2Proof.Machine

/-! RESET and the nonce wrap (`70_reset_and_hazards.md` rules R265 and R273): what RESET leaves of the state
before it, and the schedule where an interval divides 256. -/

namespace Sys2Proof.Machine

/-! ## RESET -/

/-- Settles O30: the state that RESET installs (O29) reads the state before it in the configuration, which is
the same, and in the request lines and future triggers, which it keeps. -/
theorem resetForgetsThePast : Obligations.ResetForgetsThePast := by
  intro s s' now hcfg
  refine ⟨_, _, resetInstallsTheResetValues s now, resetInstallsTheResetValues s' now, ?_⟩
  rw [hcfg]

/-! ## The nonce wrap -/

/-- The schedule test on the nonce itself: a boundary falls on the last nonce of each interval. -/
theorem scheduled_iff_nonce_mod (s : State) {h : BitVec 8} (hne : h ≠ 0) :
    s.scheduled h = true ↔ s.nonce.toNat % h.toNat = h.toNat - 1 := by
  have hpos : h.toNat ≠ 0 := by simpa [BitVec.toNat_eq] using hne
  obtain ⟨k, hk⟩ := Nat.exists_eq_succ_of_ne_zero hpos
  rw [scheduled_iff, hk, Nat.succ_mod_succ_eq_zero_iff]
  exact and_iff_right hne

/-- Where the interval divides 256, the wrap of the nonce takes off whole intervals. -/
theorem nonce_add_mod_of_dvd (n : BitVec 8) {h : BitVec 8} (hdvd : h.toNat ∣ 256) :
    (n + h).toNat % h.toNat = n.toNat % h.toNat := by
  calc (n + h).toNat % h.toNat
      = (n.toNat + h.toNat) % 256 % h.toNat := by rw [BitVec.toNat_add]
    _ = (n.toNat + h.toNat) % h.toNat := Nat.mod_mod_of_dvd _ hdvd
    _ = n.toNat % h.toNat := Nat.add_mod_right _ _

/-- Settles O21: the test reads the nonce modulo the interval alone, and that is the same one interval later. -/
theorem dividingIntervalsRecurAcrossTheWrap : Obligations.DividingIntervalsRecurAcrossTheWrap := by
  intro s h hne hdvd
  refine ⟨scheduled_iff_nonce_mod s hne, Bool.eq_iff_iff.mpr ?_⟩
  rw [scheduled_iff_nonce_mod _ hne, scheduled_iff_nonce_mod _ hne, nonce_add_mod_of_dvd _ hdvd]

end Sys2Proof.Machine
